-- ==== Sys2Proof/Word.lean ====
section
/-! DEFINITION. The plain value types of the EmuZ-700-1500 CORE: bytes, addresses, colours, and the
sparse buffers every memory is held in (00_scope.md R6, R10; 10_state.md R31, R33). -/

namespace Sys2Proof

/-- One byte, `DATA_BITS` = 8 (R6). -/
abbrev Byte := BitVec 8

/-- A 16-bit logical address, `ADDR_BITS` = 16 (R6). -/
abbrev Addr := BitVec 16

/-- An 8-bit I/O address, `IO_ADDR_BITS` = 8 (R6). -/
abbrev Port := BitVec 8

/-- A 3-bit colour index (R33, R264): bit 0 blue, bit 1 red, bit 2 green (R271). -/
abbrev Colour := BitVec 3

/-- The 320 colour indices of one line of `FRAME` or `PREV` (R33). -/
abbrev Line := List Colour

/-- One host pixel, three 8-bit channels (R33). -/
structure Rgb where
  r : Byte
  g : Byte
  b : Byte
deriving DecidableEq, Repr

/-- A buffer as plain data: (index, value) pairs. The canonical form (`Sparse.Wf`, Machine/Memory.lean)
has the indices strictly rising and no entry equal to what an unlisted index reads as. -/
abbrev Sparse (α : Type) := List (Nat × α)

/-- A byte memory: a list of `Host.Cell`. -/
abbrev Memory := List Host.Cell

end Sys2Proof
end

