-- ==== Sys2Proof/Config.lean ====
section
/-! DEFINITION. The configuration of an instance (00_scope.md R3, R6, R7): every selector and every
parameter the spec names, as plain data, and the one free value of the machine. -/

namespace Sys2Proof

/-- `MACHINE` (R3). -/
inductive Variant where
  | mz700
  | mz1500
deriving DecidableEq, Repr

/-- `TV` (R3): which of the two timing tables is in force (R9, `Config.timing`). -/
inductive Tv where
  | ntsc
  | pal
deriving DecidableEq, Repr

/-- `BOOT` (R3): what backs the low window while `MON_L` = 1. -/
inductive BootKind where
  | rom
  | flash
deriving DecidableEq, Repr

/-- `FLASH_F0_POLICY` (R7, R220): whether a lone `0xF0` in `IDLE` leaves the identification mode. -/
inductive F0Policy where
  | never
  | idleOnly
deriving DecidableEq, Repr

/-- The three overlay policies (R268). -/
inductive PrioPolicy where
  | pcgFront
  | textFgFront
  | pcgOverBg
deriving DecidableEq, Repr

/-- The peripheral collaborators (R13). -/
inductive Dev where
  | pio
  | pit
  | aux
deriving DecidableEq, Repr

/-- One timing table (R9), in clocks and lines (R7). `TV` selects one whole table, "never mixed at runtime". -/
structure Timing where
  /-- `CLOCKS_PER_LINE`. -/
  cpl : Nat
  /-- `LINES_PER_FRAME`. -/
  lpf : Nat
  vsStart : Nat
  vsEnd : Nat
  tHbs : Nat
  tHbe : Nat
  tHss : Nat
  tHse : Nat
  /-- Used only when `OVERLAY`. -/
  tPcg : Nat
deriving DecidableEq, Repr

/-- The I/O port numbers (R7). -/
structure Ports where
  monlOff : Port
  monhOff : Port
  monlOn : Port
  monhOn : Port
  monAll : Port
  pcgOpen : Port
  pcgClose : Port
  bootPage : Port
  priority : Port
deriving DecidableEq, Repr

/-- The intercepted addresses (R7, R126). -/
structure Mmio where
  pioBase : Addr
  pitBase : Addr
  aux : Addr
  pcgData : Addr
  pcgAddr : Addr
  pcgCtrl : Addr
deriving DecidableEq, Repr

/-- `PRIO_MAP` (R7, R268): the policy of each of the four values of `PRIORITY`. -/
structure PrioMap where
  p0 : PrioPolicy
  p1 : PrioPolicy
  p2 : PrioPolicy
  p3 : PrioPolicy
deriving DecidableEq, Repr

/-- The configuration of one instance (R3, R7). Its constraints are `Config.Ok` (Machine/Params.lean).
The spec does not count it as state (R16): it is fixed at INITIALIZE (log entry 1). -/
structure Config where
  variant : Variant
  tv : Tv
  boot : BootKind
  /-- `EXTROM` = present. -/
  extrom : Bool
  /-- `PCG700`: the MZ700's PCG write port is fitted. -/
  pcg700 : Bool
  /-- The table of `TV = NTSC` (R9). -/
  ntscTable : Timing
  /-- The table of `TV = PAL` (R9). -/
  palTable : Timing
  vramWaitTail : Nat
  ports : Ports
  mmio : Mmio
  iplSize : Nat
  cgSize : Nat
  pcgSize : Nat
  extSize : Nat
  flashSize : Nat
  flashCmdAddrMask : Nat
  flashCmdIdEntry : Byte
  flashCmdIdExit : Byte
  flashMfrId : Byte
  flashDevId : Byte
  f0Policy : F0Policy
  vramAttrFill : Byte
  pixelLsbLeft : Bool
  pcgLsbLeft : Bool
  prioMap : PrioMap
  blend : Bool
  scanline : Bool
  /-- No rule reads it (R7, R178). -/
  tempoPeriod : Nat
  /-- No rule reads it (R7, R179). -/
  blinkPeriod : Nat
  /-- The revision of the core that a snapshot's version tag names (R300; log entry 14). -/
  revision : Nat
deriving DecidableEq, Repr

/-! ## Values the source fixes (R6) -/

/-- `VISIBLE_LINES` and `FRAME_H`. -/
def visibleLines : Nat := 200
/-- `FRAME_W`. -/
def frameW : Nat := 320
/-- `HOST_W`. -/
def hostW : Nat := 640
/-- `HOST_H`. -/
def hostH : Nat := 400
/-- `RAM_SIZE`. -/
def ramSize : Nat := 65536
/-- `VRAM_SIZE`. -/
def vramSize : Nat := 4096
/-- `LOW_SIZE`, the low boot window. -/
def lowSize : Nat := 4096
/-- `FLASH_SECTOR`. -/
def flashSector : Nat := 4096
/-- `CELLS_PER_LINE`. -/
def cellsPerLine : Nat := 40
/-- `BUSY_PROGRAM`. -/
def busyProgram : Nat := 4
/-- `BUSY_SECTOR`. -/
def busySector : Nat := 5000
/-- `BUSY_CHIP`. -/
def busyChip : Nat := 20000
/-- `DUMMY_READ`. -/
def dummyRead : Byte := 0xFF
/-- `FILL_ROM`. -/
def fillRom : Byte := 0xFF
/-- `FILL_RAM`. -/
def fillRam : Byte := 0x00

/-! ## The free value -/

/-- `Periph.read(dev, k)` (R13, R132; 93 K1): the byte a collaborator answers to the n-th read made of
any collaborator. Nothing constrains it (log entry 7). -/
opaque Config.periphByte : Dev → Nat → Nat → Byte

/-! ## Instances -/

/-- The NTSC table of the reference instances: `CPL`, `LPF` are R7's defaults, the rest are OPEN in
R7 and taken from the example configurations of 95_test_vectors.md section 0. DESIGN CHOICE, unsafe (log entry 2). -/
def Timing.ntsc : Timing :=
  { cpl := 228, lpf := 262, vsStart := 222, vsEnd := 225, tHbs := 160, tHbe := 224,
    tHss := 176, tHse := 192, tPcg := 170 }

/-- The PAL table of the reference instances: `CPL`, `LPF` are R7's defaults for PAL, the rest are OPEN in R7 and 95 gives
no PAL instance. DESIGN CHOICE, unsafe (log entry 2). -/
def Timing.pal : Timing := { Timing.ntsc with cpl := 227, lpf := 312 }

/-- The default port numbers of R7 (general knowledge, PRESUMED by the spec: log entry 3), with the OPEN
`PORT_BOOT_PAGE` at the `0xE9` of 95_test_vectors.md. -/
def Ports.reference : Ports :=
  { monlOff := 0xE0, monhOff := 0xE1, monlOn := 0xE2, monhOn := 0xE3, monAll := 0xE4,
    pcgOpen := 0xE5, pcgClose := 0xE6, bootPage := 0xE9, priority := 0xF0 }

/-- The default intercepted addresses of R7 (PRESUMED by the spec: log entry 3). -/
def Mmio.reference : Mmio :=
  { pioBase := 0xE000, pitBase := 0xE004, aux := 0xE008,
    pcgData := 0xE010, pcgAddr := 0xE011, pcgCtrl := 0xE012 }

/-- CFG-A of 95_test_vectors.md: MZ1500, flash boot storage, no extension ROM. It is the configuration of
`State.reset`. DESIGN CHOICE, unsafe (log entry 2). -/
def Config.reference : Config :=
  { variant := .mz1500, tv := .ntsc, boot := .flash, extrom := false, pcg700 := false,
    ntscTable := Timing.ntsc, palTable := Timing.pal, vramWaitTail := 3, ports := Ports.reference, mmio := Mmio.reference,
    iplSize := 4096, cgSize := 4096, pcgSize := 0x6000, extSize := 0x1800, flashSize := 0x20000,
    flashCmdAddrMask := 0x7FFF, flashCmdIdEntry := 0x90, flashCmdIdExit := 0xF0,
    flashMfrId := 0x11, flashDevId := 0x22, f0Policy := .idleOnly, vramAttrFill := 0x71,
    pixelLsbLeft := true, pcgLsbLeft := true,
    prioMap := { p0 := .pcgFront, p1 := .textFgFront, p2 := .pcgOverBg, p3 := .pcgFront },
    blend := false, scanline := false, tempoPeriod := 0, blinkPeriod := 0, revision := 0 }

/-- CFG-B of 95_test_vectors.md: MZ700, boot ROM, extension ROM, no PCG board. -/
def Config.plain700 : Config :=
  { Config.reference with variant := .mz700, boot := .rom, extrom := true, pcgSize := 0x1000 }

/-- CFG-C of 95_test_vectors.md: MZ700, boot ROM, with the PCG write port. -/
def Config.board700 : Config :=
  { Config.reference with variant := .mz700, boot := .rom, pcg700 := true, pcgSize := 0x1000 }

end Sys2Proof
end

