-- ==== Sys2Proof/Machine/Registers.lean ====
section
/-! DEFINITION. The register groups of the core (10_state.md R21 to R30) as the snapshot of 44 R300 groups
them, the snapshot itself, and the images INITIALIZE takes (70 R350). -/

namespace Sys2Proof

/-- The Mode Latch group, the PCG write-port registers and the priority register (R21 to R25): row 7 of R300. -/
structure Latch where
  /-- `MODE`: bit 0 `MON_L`, bit 1 `MON_H`, bit 2 `PCG_EN` (R21). -/
  mode : BitVec 3
  pcgBank : BitVec 2
  /-- `BOOT_PAGE`, 0 to FLASH_SIZE/4096 - 1 (R23). -/
  bootPage : Nat
  pcgData : Byte
  pcgAddr : Byte
  pcgCtrl : Byte
  priority : BitVec 2
deriving DecidableEq, Repr

/-- The raster counters and flags (R26 to R29): row 8 of R300. -/
structure Raster where
  line : Nat
  hcnt : Nat
  hblank : Bool
  hsync : Bool
  vblank : Bool
  vsync : Bool
  tempo : Bool
  blink : Bool
  blankVram : Bool
  pcgSafe : Bool
  stall : Bool
deriving DecidableEq, Repr

/-- The flash cycle states (R30, R211). -/
inductive Cycle where
  | idle
  | unlock1
  | unlock2
  | programSel
  | eraseSel
  | eraseUnlock1
  | eraseUnlock2
deriving DecidableEq, Repr

/-- The flash scalars of a snapshot (R30): row 9 of R300. -/
structure FlashRegs where
  cycle : Cycle
  busy : Nat
  idMode : Bool
deriving DecidableEq, Repr

/-- The physical memories and the flash backing store (R30, R31), each a sparse buffer. -/
structure Memories where
  ipl : Memory
  cgrom : Memory
  ext : Memory
  pcg : Memory
  ram : Memory
  vram : Memory
  fstore : Memory
deriving DecidableEq, Repr

/-- The renderer buffers (R33), by line: an unlisted line of `FRAME` or `PREV` is all colour 0, an unlisted
row of `HOST` all (0,0,0) (log entry 11). -/
structure Video where
  frame : Sparse Line
  prev : Sparse Line
  host : Sparse (List Rgb)
deriving DecidableEq, Repr

/-- Every memory at its fill (10 R31; nothing listed). -/
def Memories.filled : Memories :=
  { ipl := [], cgrom := [], ext := [], pcg := [], ram := [], vram := [], fstore := [] }

/-- Every renderer buffer all zero (10 R33). -/
def Video.blank : Video := { frame := [], prev := [], host := [] }

/-- The latch after INITIALIZE and after RESET (R35). -/
def Latch.powerOn : Latch :=
  { mode := 0b011, pcgBank := 0, bootPage := 0, pcgData := 0, pcgAddr := 0, pcgCtrl := 0, priority := 0 }

/-- The raster group after INITIALIZE and after RESET (R35). -/
def Raster.powerOn : Raster :=
  { line := 0, hcnt := 0, hblank := false, hsync := false, vblank := false, vsync := false,
    tempo := false, blink := false, blankVram := false, pcgSafe := false, stall := false }

/-- The flash scalars after INITIALIZE and after RESET (R35). -/
def FlashRegs.powerOn : FlashRegs := { cycle := .idle, busy := 0, idMode := false }

/-- The snapshot of R300. The identity tag is the configuration itself, the version tag the revision of the
core (log entry 14). With BOOT = ROM rows 6 and 9 carry the absent flash's constant values. -/
structure Snapshot where
  version : Nat
  identity : Config
  pcg : Memory
  ram : Memory
  vram : Memory
  fstore : Memory
  latch : Latch
  timing : Raster
  flash : FlashRegs
deriving DecidableEq, Repr

/-- The images handed to INITIALIZE (R350): a finite byte string or absent. -/
structure Images where
  ipl : Option (List Byte)
  cg : Option (List Byte)
  ext : Option (List Byte)
  flash : Option (List Byte)
deriving DecidableEq, Repr

/-- No image at all (condition E1 of R321 for each). -/
def Images.absent : Images := { ipl := none, cg := none, ext := none, flash := none }

end Sys2Proof
end

