-- ==== Sys2Proof/Machine/Params.lean ====
section
/-! DEFINITION. What follows from a configuration: the derived selectors of 00_scope.md R3, the constraints of R7,
the buffers of 10_state.md R30, R31 with their sizes and fills. -/

namespace Sys2Proof

/-- `OVERLAY` is true exactly when `MACHINE = MZ1500` (R3). -/
def Config.overlay (c : Config) : Bool := c.variant == .mz1500

/-- `BOOT = FLASH` (R3). -/
def Config.hasFlash (c : Config) : Bool := c.boot == .flash

/-- The PCG write port is present: `MACHINE = MZ700` and `PCG700` (R24, R134). -/
def Config.hasPcgPort (c : Config) : Bool := c.variant == .mz700 && c.pcg700

/-- `FLASH_SIZE / 4096`, the number of boot pages (R23). -/
def Config.pages (c : Config) : Nat := c.flashSize / flashSector

/-- `PAGE_BITS` (R7). -/
def Config.pageBits (c : Config) : Nat := c.pages.log2

/-- `PRIO_MAP` as a function of `PRIORITY` (R268). -/
def Config.policy (c : Config) (p : BitVec 2) : PrioPolicy :=
  match p.toNat with
  | 0 => c.prioMap.p0
  | 1 => c.prioMap.p1
  | 2 => c.prioMap.p2
  | _ => c.prioMap.p3

/-- The ports the instance defines (R99, R139, R148), in the order of R96. -/
def Config.definedPorts (c : Config) : List Port :=
  [c.ports.monlOff, c.ports.monhOff, c.ports.monlOn, c.ports.monhOn, c.ports.monAll]
    ++ (if c.overlay then [c.ports.pcgOpen, c.ports.pcgClose] else [])
    ++ (if c.hasFlash then [c.ports.bootPage] else [])
    ++ (if c.overlay then [c.ports.priority] else [])

/-- A power of two. -/
abbrev isPow2 (n : Nat) : Prop := n = 2 ^ n.log2

/-- The address lies in the I/O block `0xE000`-`0xE7FF` (R7). -/
abbrev inIoBlock (a : Nat) : Prop := 0xE000 ≤ a ∧ a ≤ 0xE7FF

/-- `TV` selects the values of every timing parameter as one set (R9); the machine reads them through this alone. -/
def Config.timing (c : Config) : Timing :=
  match c.tv with
  | .ntsc => c.ntscTable
  | .pal => c.palTable

/-- The constraints of R7 on one timing table (92 D21); `T_PCG` only with `OVERLAY`. -/
abbrev Timing.Ok (overlay : Bool) (t : Timing) : Prop :=
  2 ≤ t.cpl ∧ visibleLines < t.lpf
    ∧ visibleLines ≤ t.vsStart ∧ t.vsStart < t.vsEnd ∧ t.vsEnd ≤ t.lpf
    ∧ 0 < t.tHbs ∧ t.tHbs < t.tHbe ∧ t.tHbe ≤ t.cpl
    ∧ 0 < t.tHss ∧ t.tHss < t.tHse ∧ t.tHse ≤ t.cpl
    ∧ (overlay = true → 0 < t.tPcg ∧ t.tPcg < t.cpl)

/-- The same as a test. -/
def Timing.ok (overlay : Bool) (t : Timing) : Bool := decide (Timing.Ok overlay t)

/-- The timing constraints hold of both tables (R7, R9, 92 D21; log entry 18). -/
abbrev Config.TimingOk (c : Config) : Prop :=
  Timing.ok c.overlay c.ntscTable = true ∧ Timing.ok c.overlay c.palTable = true

/-- The port and address constraints of R7 and 93 K6. -/
abbrev Config.AddressesOk (c : Config) : Prop :=
  c.definedPorts.Nodup
    ∧ inIoBlock c.mmio.pioBase.toNat ∧ inIoBlock (c.mmio.pioBase.toNat + 3)
    ∧ inIoBlock c.mmio.pitBase.toNat ∧ inIoBlock (c.mmio.pitBase.toNat + 3)
    ∧ inIoBlock c.mmio.aux.toNat
    ∧ (c.hasPcgPort = true → inIoBlock c.mmio.pcgData.toNat ∧ inIoBlock c.mmio.pcgAddr.toNat
        ∧ inIoBlock c.mmio.pcgCtrl.toNat ∧ [c.mmio.pcgData, c.mmio.pcgAddr, c.mmio.pcgCtrl].Nodup)

/-- The size constraints of R7 and 93 K7. -/
abbrev Config.SizesOk (c : Config) : Prop :=
  c.iplSize = lowSize ∧ isPow2 c.cgSize ∧ 4096 ≤ c.cgSize
    ∧ c.pcgSize = (if c.overlay then 0x6000 else 0x1000) ∧ c.extSize = 0x1800
    ∧ (c.hasFlash = true → isPow2 c.flashSize ∧ 0x8000 ≤ c.flashSize)

/-- The flash command constraints of R7 and R98. -/
abbrev Config.FlashOk (c : Config) : Prop :=
  c.hasFlash = true →
    c.flashCmdAddrMask = 0x7FFF
      ∧ [c.flashCmdIdEntry, c.flashCmdIdExit, (0xA0 : Byte), (0x80 : Byte)].Nodup

/-- `PRIO_MAP` is onto the three policies (R268). -/
abbrev Config.PrioOk (c : Config) : Prop :=
  c.overlay = true →
    ∀ p ∈ [PrioPolicy.pcgFront, .textFgFront, .pcgOverBg],
      p ∈ [c.prioMap.p0, c.prioMap.p1, c.prioMap.p2, c.prioMap.p3]

/-- The configuration satisfies the constraints of R7 (R336 (c)); a constraint on a unit the instance does not have
is not asked (log entry 18). -/
abbrev Config.Ok (c : Config) : Prop :=
  c.TimingOk ∧ c.AddressesOk ∧ c.SizesOk ∧ c.FlashOk ∧ c.PrioOk

/-- The byte buffers the core owns (R30, R31). -/
inductive Buffer where
  | ipl
  | cgrom
  | ext
  | pcg
  | ram
  | vram
  | fstore
deriving DecidableEq, Repr

/-- The size of a buffer (R30, R31). -/
def bufferSize (c : Config) : Buffer → Nat
  | .ipl => c.iplSize
  | .cgrom => c.cgSize
  | .ext => c.extSize
  | .pcg => c.pcgSize
  | .ram => ramSize
  | .vram => vramSize
  | .fstore => c.flashSize

/-- What an unlisted byte of a buffer reads as: the fill INITIALIZE gives it (R30, R31, R350; log entry 10). -/
def fillOf (c : Config) (b : Buffer) (off : Nat) : Byte :=
  match b with
  | .ipl | .cgrom | .ext | .fstore => fillRom
  | .pcg | .ram => fillRam
  | .vram => if 0x800 ≤ off ∧ off < 0xC00 then c.vramAttrFill else fillRam

/-- An unlisted line of `FRAME` or `PREV`: 320 times colour 0 (R33, R350). -/
def blankLine : Line := List.replicate frameW 0

/-- (0,0,0). -/
def Rgb.black : Rgb := { r := 0, g := 0, b := 0 }

/-- An unlisted row of `HOST`: 640 times (0,0,0) (R33, R350). -/
def blankRow : List Rgb := List.replicate hostW Rgb.black

end Sys2Proof
end

