-- ==== Sys2Proof/Machine/Flags.lean ====
section
/-! DEFINITION. Every computation of a flag, a status byte or a wait count the spec gives, on plain values:
the MODE bits (10 R21), the raster flags as functions of the counters (10 R28, 41 R172, R186), the VRAM wait
(41 R181), the flash status byte (42 R213). -/

namespace Sys2Proof

/-! ## The bits of MODE (R21) -/

/-- `MON_L`. -/
def Latch.monL (l : Latch) : Bool := l.mode.getLsbD 0
/-- `MON_H`. -/
def Latch.monH (l : Latch) : Bool := l.mode.getLsbD 1
/-- `PCG_EN`. -/
def Latch.pcgEn (l : Latch) : Bool := l.mode.getLsbD 2

/-- MODE with bit `i` set to `b`, the other bits kept. -/
def modeWith (m : BitVec 3) (i : Nat) (b : Bool) : BitVec 3 :=
  if b then m ||| (1#3 <<< i) else m &&& ~~~(1#3 <<< i)

/-! ## The raster flags -/

/-- `VBLANK = (LINE >= VISIBLE_LINES)` (R28, R172). -/
def vblankAt (line : Nat) : Bool := decide (visibleLines ≤ line)
/-- `VSYNC = (VS_START <= LINE < VS_END)` (R28, R172). -/
def vsyncAt (t : Timing) (line : Nat) : Bool := decide (t.vsStart ≤ line) && decide (line < t.vsEnd)
/-- `HBLANK = (T_HBS <= HCNT < T_HBE)` (R28, R186 (b)). -/
def hblankAt (t : Timing) (hcnt : Nat) : Bool := decide (t.tHbs ≤ hcnt) && decide (hcnt < t.tHbe)
/-- `HSYNC = (T_HSS <= HCNT < T_HSE)` (R28, R186 (b)). -/
def hsyncAt (t : Timing) (hcnt : Nat) : Bool := decide (t.tHss ≤ hcnt) && decide (hcnt < t.tHse)
/-- `BLANK_VRAM = (HCNT >= T_HBS)` (R28, R186 (c)). -/
def blankVramAt (t : Timing) (hcnt : Nat) : Bool := decide (t.tHbs ≤ hcnt)
/-- `PCG_SAFE = (HCNT >= T_PCG)` when `OVERLAY` (R186 (e)); absent otherwise. -/
def pcgSafeAt (c : Config) (hcnt : Nat) : Bool := c.overlay && decide (c.timing.tPcg ≤ hcnt)

/-! ## Wait counts and the status byte -/

/-- `VramWait()` (R181): `(T_HBS -. HCNT) + VRAM_WAIT_TAIL` while `BLANK_VRAM` = 0, else 0. -/
def vramWait (c : Config) (r : Raster) : Nat :=
  if r.blankVram then 0 else (c.timing.tHbs - r.hcnt) + c.vramWaitTail

/-- The status byte `((b ^ 0x80) & 0xBF) | ((BUSY & 1) << 6)` with the decremented counter (R213). -/
def statusByte (b : Byte) (busy : Nat) : Byte :=
  ((b ^^^ 0x80#8) &&& 0xBF#8) ||| (BitVec.ofNat 8 (busy % 2) <<< 6)

end Sys2Proof
end

