-- ==== Sys2Proof/Machine/Operands.lean ====
section
/-! DEFINITION. The assembled quantities of 30_encoding.md R95 and the fields of the codes of R91, R94. -/

namespace Sys2Proof

/-! ## The transaction code, `TC = kind[1:0] : addr[15:0] : data[7:0]` (R91) -/

def tcKind (tc : BitVec 26) : BitVec 2 := tc.extractLsb' 24 2
def tcAddr (tc : BitVec 26) : Addr := tc.extractLsb' 8 16
def tcData (tc : BitVec 26) : Byte := tc.extractLsb' 0 8
/-- The port of an IO code: `addr[7:0]` (R93). -/
def tcPort (tc : BitVec 26) : Port := tc.extractLsb' 8 8
/-- Assemble a transaction code. -/
def mkTc (kind : BitVec 2) (addr : Addr) (data : Byte) : BitVec 26 := kind ++ (addr ++ data : BitVec 24)

/-! ## Logical addresses (R61, R92) -/

/-- The window index `addr >> 11`. -/
def windowIndex (a : Addr) : Nat := a.toNat / 0x800
/-- The offset in the window `addr & 0x7FF`. -/
def windowOffset (a : Addr) : Nat := a.toNat % 0x800
/-- `addr[11:0]`. -/
def low12 (a : Addr) : BitVec 12 := a.setWidth 12
/-- The logical address with a given offset in the low boot window (R92). -/
def bootAddr (off : BitVec 12) : Addr := off.setWidth 16
/-- The logical address with a given offset in VRAM (R92, R181). -/
def vramAddr (off : BitVec 12) : Addr := 0xD000 + off.setWidth 16

/-! ## Flash (R94, R95) -/

/-- `fa = BOOT_PAGE : a[11:0]` (R127). -/
def flashLocal (bootPage : Nat) (off : BitVec 12) : Nat := bootPage * 0x1000 + off.toNat
/-- The comparison code `FC = (fa & FLASH_CMD_ADDR_MASK) : v`, 23 bits (R94, R218). -/
def comparisonCode (c : Config) (fa : Nat) (v : Byte) : BitVec 23 :=
  BitVec.ofNat 15 (fa &&& c.flashCmdAddrMask) ++ v
/-- The sector number `fa >> 12` (R231). -/
def sectorOf (fa : Nat) : Nat := fa / flashSector

/-! ## The PCG write port (R138) -/

/-- The pattern-cell offset `(d[2] ? 0xC00 : 0x400) | (d[1:0] << 8) | PCG_ADDR`, 12 bits. -/
def pcgPortOffset (d pcgAddr : Byte) : BitVec 12 :=
  (if d.getLsbD 2 then 0xC00#12 else 0x400#12) ||| ((d.extractLsb' 0 2).setWidth 12 <<< 8)
    ||| pcgAddr.setWidth 12

/-! ## The renderer (R261, R263, R266) -/

/-- The cell number `40 * (y >> 3) + c` (R260). -/
def cellIndex (y c : Nat) : Nat := cellsPerLine * (y / 8) + c
/-- `((attr[7] : code) << 3) | sub`, 12 bits (R263). -/
def glyphOffset (code attr : Byte) (sub : Nat) : Nat :=
  (((attr.extractLsb' 7 1 ++ code : BitVec 9) ++ BitVec.ofNat 3 sub : BitVec 12)).toNat
/-- `((pattr[7:6] : pcode) << 3) | sub`, 13 bits (R266). -/
def overlayOffset (pcode pattr : Byte) (sub : Nat) : Nat :=
  (((pattr.extractLsb' 6 2 ++ pcode : BitVec 10) ++ BitVec.ofNat 3 sub : BitVec 13)).toNat

end Sys2Proof
end

