-- ==== Sys2Proof/Machine/BankMap.lean ====
section
/-! DEFINITION. The Bank Map as a function of the latch (40 R121), the dispatch predicates (40 R125) and the
intercepted set (40 R126). -/

namespace Sys2Proof

/-- The readable source of a window (20 R69). -/
inductive ReadSource where
  | ipl
  | ram
  | vram
  | pcg
  | cgrom
  | ext
  | dummy
deriving DecidableEq, Repr

/-- The writable sink of a window (20 R69): no ROM is one (20 R70). -/
inductive WriteSink where
  | ram
  | vram
  | pcg
  | discard
deriving DecidableEq, Repr

/-- The buffer behind a source, none for the dummy. -/
def ReadSource.buffer : ReadSource → Option Buffer
  | .ipl => some .ipl
  | .ram => some .ram
  | .vram => some .vram
  | .pcg => some .pcg
  | .cgrom => some .cgrom
  | .ext => some .ext
  | .dummy => none

/-- The buffer behind a sink, none for the discard sink. -/
def WriteSink.buffer : WriteSink → Option Buffer
  | .ram => some .ram
  | .vram => some .vram
  | .pcg => some .pcg
  | .discard => none

/-- A window: `(rsrc, roff, wsink, woff)` (20 R69). -/
structure Window where
  rsrc : ReadSource
  roff : Nat
  wsink : WriteSink
  woff : Nat
deriving DecidableEq, Repr

/-- `RAMWIN` of R121. -/
def ramWindow (w : Nat) : Window := { rsrc := .ram, roff := w * 0x800, wsink := .ram, woff := w * 0x800 }
/-- `DUMMYWIN` of R121: "a dummy all-0xFF read sink and a discard write sink" (20 R69). -/
def dummyWindow : Window := { rsrc := .dummy, roff := 0, wsink := .discard, woff := 0 }
/-- A read-only window on a ROM. -/
def romWindow (src : ReadSource) (off : Nat) : Window := { rsrc := src, roff := off, wsink := .discard, woff := 0 }

/-- `PcgOpen = OVERLAY and PCG_EN = 1` (R125). -/
def pcgOpen (c : Config) (l : Latch) : Bool := c.overlay && l.pcgEn

/-- `derive(w)` (R121). -/
def derive (c : Config) (l : Latch) (w : Nat) : Window :=
  if w ≤ 1 then
    if l.monL then
      if c.hasFlash then dummyWindow else romWindow .ipl (w * 0x800)
    else ramWindow w
  else if w ≤ 25 then ramWindow w
  else if pcgOpen c l then
    if w ≤ 29 then
      if l.pcgBank = 0 then romWindow .cgrom (((w - 26) % 2) * 0x800)
      else
        let b := (l.pcgBank.toNat - 1) * 0x2000 + (w - 26) * 0x800
        { rsrc := .pcg, roff := b, wsink := .pcg, woff := b }
    else dummyWindow
  else if l.monH then
    if w ≤ 27 then { rsrc := .vram, roff := (w - 26) * 0x800, wsink := .vram, woff := (w - 26) * 0x800 }
    else if w = 28 then dummyWindow
    else if c.extrom then romWindow .ext ((w - 29) * 0x800)
    else dummyWindow
  else ramWindow w

/-! ## The predicates of the dispatch (R125) -/

/-- `InPcgWin(a)`. -/
def inPcgWin (c : Config) (l : Latch) (a : Addr) : Bool :=
  pcgOpen c l && decide (0xD000 ≤ a.toNat) && decide (a.toNat ≤ 0xEFFF)
/-- `InterceptActive`. -/
def interceptActive (c : Config) (l : Latch) : Bool := l.monH && !pcgOpen c l
/-- `InBoot(a)`. -/
def inBoot (l : Latch) (a : Addr) : Bool := l.monL && decide (a.toNat < 0x1000)
/-- `InVram(a)`. -/
def inVram (c : Config) (l : Latch) (a : Addr) : Bool :=
  l.monH && !pcgOpen c l && decide (0xD000 ≤ a.toNat) && decide (a.toNat ≤ 0xDFFF)

/-! ## The intercepted set (R126) -/

/-- The classes of intercepted addresses. -/
inductive MmioClass where
  | pio (k : BitVec 2)
  | pit (k : BitVec 2)
  | aux
  | pcgwData
  | pcgwAddr
  | pcgwCtrl
deriving DecidableEq, Repr

/-- `MmioClass(a)`, or none. Where the parameters make two members overlap, the earlier row of R96 decides
(log entry 19). -/
def mmioClass (c : Config) (a : Addr) : Option MmioClass :=
  if (a - c.mmio.pioBase).toNat < 4 then some (.pio ((a - c.mmio.pioBase).setWidth 2))
  else if (a - c.mmio.pitBase).toNat < 4 then some (.pit ((a - c.mmio.pitBase).setWidth 2))
  else if a = c.mmio.aux then some .aux
  else if c.hasPcgPort && a == c.mmio.pcgData then some .pcgwData
  else if c.hasPcgPort && a == c.mmio.pcgAddr then some .pcgwAddr
  else if c.hasPcgPort && a == c.mmio.pcgCtrl then some .pcgwCtrl
  else none

/-- The class of an address while the intercepts are active, none otherwise (R126, R130). -/
def intercepted (c : Config) (l : Latch) (a : Addr) : Option MmioClass :=
  if interceptActive c l then mmioClass c a else none

end Sys2Proof
end

