-- ==== Sys2Proof/Machine/Memory.lean ====
section
/-! DEFINITION. Sparse buffers as plain data: reading, writing, clearing a range, loading an image. `fill` is what an
unlisted index reads as. The same operations serve the byte memories and the renderer buffers. -/

namespace Sys2Proof

variable {α : Type} [DecidableEq α]

/-- The canonical form of a buffer of `size` entries: indices strictly rising and inside the buffer, no entry equal to
what an unlisted index reads as. -/
abbrev Sparse.Wf (fill : Nat → α) (size : Nat) (m : Sparse α) : Prop :=
  m.Pairwise (fun p q => p.1 < q.1) ∧ ∀ p ∈ m, p.1 < size ∧ p.2 ≠ fill p.1

/-- The value at an index. -/
def Sparse.get (fill : Nat → α) : Sparse α → Nat → α
  | [], k => fill k
  | (j, v) :: m, k => if j = k then v else Sparse.get fill m k

/-- Put an entry in front, or leave it out when it is what the index reads as unlisted. -/
def Sparse.cons (fill : Nat → α) (k : Nat) (v : α) (m : Sparse α) : Sparse α :=
  if v = fill k then m else (k, v) :: m

/-- Store a value at an index, keeping the canonical form. -/
def Sparse.set (fill : Nat → α) : Sparse α → Nat → α → Sparse α
  | [], k, v => Sparse.cons fill k v []
  | (j, u) :: m, k, v =>
    if k < j then Sparse.cons fill k v ((j, u) :: m)
    else if k = j then Sparse.cons fill k v m
    else (j, u) :: Sparse.set fill m k v

/-- Return the `n` indices from `lo` on to the fill. -/
def Sparse.clear (m : Sparse α) (lo n : Nat) : Sparse α :=
  m.filter (fun p => p.1 < lo ∨ lo + n ≤ p.1)

/-- The buffer that holds `vs` from index `i` on and the fill everywhere else. -/
def Sparse.load (fill : Nat → α) (i : Nat) : List α → Sparse α
  | [] => []
  | v :: vs => Sparse.cons fill i v (Sparse.load fill (i + 1) vs)

/-- The buffer of `n` entries from `i` on that holds `f j` at each index `j`. -/
def Sparse.tabulate (fill f : Nat → α) (i : Nat) : Nat → Sparse α
  | 0 => []
  | n + 1 => Sparse.cons fill i (f i) (Sparse.tabulate fill f (i + 1) n)

/-- The canonical form of a byte memory of the given size. -/
abbrev Memory.wf (fill : Nat → Byte) (size : Nat) (m : Memory) : Prop := Sparse.Wf fill size m

/-- `LoadImage(buf, img)` into a buffer that is all fill (R352): the first `min(length, size)` bytes are copied, the
rest keeps the fill; an absent image changes nothing. -/
def loadImage (fill : Nat → Byte) (size : Nat) : Option (List Byte) → Memory
  | none => []
  | some img => Sparse.load fill 0 (img.take size)

end Sys2Proof
end

