-- ==== Sys2Proof/Machine/Snapshot.lean ====
section
/-! DEFINITION. What a snapshot produced by SNAP_SAVE can hold (44 R302, 60 R336 (d)): for a configuration, the register groups,
buffers and their combinations that operations lead to from INITIALIZE (41 R186, 42 R234, 10_state.md R21 to R31; log
entry 15). -/

namespace Sys2Proof

/-! ## Registers -/

/-- A register of the PCG write port answers at its address: the port is present (R134) and no earlier class takes the
address (log entry 19). -/
def pcgPortAnswers (c : Config) (a : Addr) (k : MmioClass) : Bool := mmioClass c a == some k

/-- The latch: `BOOT_PAGE` is a data byte modulo the number of pages (40 R147), registers the instance lacks or that no
access reaches are at their hard-wired or reset value (R21 to R25). -/
abbrev LatchOk (c : Config) (l : Latch) : Prop :=
  l.bootPage < (if c.hasFlash then min c.pages 0x100 else 1)
    ∧ (c.overlay = false → l.pcgEn = false ∧ l.pcgBank = 0 ∧ l.priority = 0)
    ∧ (pcgPortAnswers c c.mmio.pcgData .pcgwData = false → l.pcgData = 0)
    ∧ (pcgPortAnswers c c.mmio.pcgAddr .pcgwAddr = false → l.pcgAddr = 0)
    ∧ (pcgPortAnswers c c.mmio.pcgCtrl .pcgwCtrl = false → l.pcgCtrl = 0)

/-- The invariants of 41 R186 (a) to (e). -/
abbrev RasterOk (c : Config) (r : Raster) : Prop :=
  r.hcnt < c.timing.cpl ∧ r.line < c.timing.lpf
    ∧ r.hblank = hblankAt c.timing r.hcnt ∧ r.hsync = hsyncAt c.timing r.hcnt
    ∧ r.blankVram = blankVramAt c.timing r.hcnt
    ∧ r.vblank = vblankAt r.line ∧ r.vsync = vsyncAt c.timing r.line
    ∧ r.pcgSafe = pcgSafeAt c r.hcnt
    ∧ (r.stall = true → c.overlay = true ∧ r.pcgSafe = false)

/-- The ranges of R30 and 42 R234 (b); without a flash the group is constant. -/
abbrev FlashRegsOk (c : Config) (f : FlashRegs) : Prop :=
  f.busy ≤ busyChip ∧ (0 < f.busy → f.cycle = .idle) ∧ (c.hasFlash = false → f = FlashRegs.powerOn)

/-! ## Buffers -/

/-- A buffer is in canonical form for its size and fill; an absent buffer lists nothing (R30, R31). -/
abbrev BufferOk (c : Config) (b : Buffer) (m : Memory) : Prop :=
  Memory.wf (fillOf c b) (bufferSize c b) m
    ∧ (b = .fstore ∧ c.hasFlash = false → m = []) ∧ (b = .ext ∧ c.extrom = false → m = [])

/-- A byte of the PCG buffer can become other than its fill: every byte through the overlay windows (40 R121), on the MZ700
with the PCG write port the bytes seeded from the character ROM (70 R350) and those a control byte can address (40 R138), and
none otherwise. -/
def pcgWritable (c : Config) (k : Nat) : Bool :=
  c.overlay
    || c.hasPcgPort
      && (decide (k % 0x800 < 0x400)
        || pcgPortAnswers c c.mmio.pcgCtrl .pcgwCtrl
          && (pcgPortAnswers c c.mmio.pcgAddr .pcgwAddr || decide (k % 0x100 = 0)))

/-- The PCG buffer differs from its fill only where it can. -/
abbrev PcgOk (c : Config) (m : Memory) : Prop := ∀ p ∈ m, pcgWritable c p.1 = true

/-- The store while the flash is busy (42 R227, R230, R231, R217): a count above a sector erase's was set by a chip erase, one
above a byte program's by a chip or sector erase, and no write has been taken since, so that the erased bytes are still `0xFF`. -/
abbrev StoreOk (c : Config) (f : FlashRegs) (m : Memory) : Prop :=
  (busySector < f.busy → m = [])
    ∧ (busyProgram < f.busy → ∃ n, n < c.pages ∧ ∀ p ∈ m, p.1 / flashSector ≠ n)

/-! ## The snapshot -/

/-- A snapshot body that SNAP_SAVE can have produced on an instance of its identity tag (R302, R336 (d)). -/
def Snapshot.wf (p : Snapshot) : Bool :=
  decide (BufferOk p.identity .pcg p.pcg) && decide (BufferOk p.identity .ram p.ram)
    && decide (BufferOk p.identity .vram p.vram) && decide (BufferOk p.identity .fstore p.fstore)
    && decide (LatchOk p.identity p.latch) && decide (RasterOk p.identity p.timing)
    && decide (FlashRegsOk p.identity p.flash) && decide (PcgOk p.identity p.pcg)
    && decide (StoreOk p.identity p.flash p.fstore)

end Sys2Proof
end

