-- ==== Sys2Proof/Syntax.lean ====
section
/-! DEFINITION. The operations of the core, one constructor per row of 30_encoding.md R96 (spec/opcode_table.json),
and the requests the environment presents them by. -/

namespace Sys2Proof

/-- The direction of a MEM operation and the byte written: `w` of the table's MEM rows (R91). -/
inductive Access where
  | read
  | write (v : Byte)
deriving DecidableEq, Repr

/-- The operations of R96. The carriers MEMRD, MEMWR, IOWR, FRD, FWR dispatch on the state; the others are what a
carrier is in a state. -/
inductive Instr where
  -- MEM
  | memrd (addr : Addr)
  | memwr (addr : Addr) (v : Byte)
  | memPcgwin (acc : Access) (addr : Addr)
  | memMmioPio (acc : Access) (k : BitVec 2)
  | memMmioPit (acc : Access) (k : BitVec 2)
  | memMmioAux (acc : Access)
  | memPcgwData (acc : Access)
  | memPcgwAddr (acc : Access)
  | memPcgwCtrl (acc : Access)
  | memBootflash (acc : Access) (off : BitVec 12)
  | memBootrom (acc : Access) (off : BitVec 12)
  | memVram (acc : Access) (off : BitVec 12)
  | memWindow (acc : Access) (addr : Addr)
  -- IO
  | iord (port : Port)
  | iowr (port : Port) (v : Byte)
  | outMonlOff
  | outMonhOff
  | outMonlOn
  | outMonhOn
  | outMonAll
  | outPcgOpen (bank : BitVec 2)
  | outPcgClose
  | outBootPage (v : Byte)
  | outPriority (p : BitVec 2)
  | outUndef (port : Port)
  -- FL
  | frd (fa : Nat)
  | frdStatus (fa : Nat)
  | frdId (fa : Nat)
  | frdArray (fa : Nat)
  | fwr (fa : Nat) (v : Byte)
  | fwrBusy (fa : Nat) (v : Byte)
  | fUnlock1
  | fReset (fa : Nat)
  | fUnlock2
  | fProgramSetup
  | fEraseSetup
  | fIdEntry
  | fIdExit
  | fProgramData (fa : Nat) (v : Byte)
  | fEraseUnlock1
  | fEraseUnlock2
  | fChipErase
  | fSectorErase (fa : Nat)
  | fMismatch (fa : Nat) (v : Byte)
  -- EV
  | tick
  | evNewline
  | evHblankS
  | evHblankE
  | evHsyncS
  | evHsyncE
  | evPcgwin
  | tempo
  | blink
  | renderLine (y : Nat)
  -- HOST
  | present
  | initCore (cfg : Config) (images : Images)
  | reset
  | snapSave
  | snapLoad (snap : Snapshot)
  | release
deriving DecidableEq, Repr

/-- What the environment presents to the core, one operation at a time (R15, R90): a coded bus transaction of the
CPU collaborator (R91), a flash-local operation of the line notation (R101; log entry 13), a named call of the
scheduler or of the host, or bits that are no code of R90. -/
inductive Request where
  | bus (tc : BitVec 26)
  | flashRd (fa : Nat)
  | flashWr (fa : Nat) (v : Byte)
  | tick
  | tempo
  | blink
  | present
  | initCore (cfg : Config) (images : Images)
  | reset
  | snapSave
  | snapLoad (snap : Snapshot)
  | release
  | malformed (nbits : Nat) (w : Nat)
deriving DecidableEq, Repr

/-- The agents of R96's third column (R15). -/
inductive Agent where
  | cpu
  | core
  | scheduler
  | host
deriving DecidableEq, Repr

/-- The agent column of R96. -/
def Instr.agent : Instr → Agent
  | .memrd _ | .memwr _ _ | .memPcgwin _ _ | .memMmioPio _ _ | .memMmioPit _ _ | .memMmioAux _
  | .memPcgwData _ | .memPcgwAddr _ | .memPcgwCtrl _ | .memBootflash _ _ | .memBootrom _ _
  | .memVram _ _ | .memWindow _ _ => .cpu
  | .iord _ | .iowr _ _ | .outMonlOff | .outMonhOff | .outMonlOn | .outMonhOn | .outMonAll
  | .outPcgOpen _ | .outPcgClose | .outBootPage _ | .outPriority _ | .outUndef _ => .cpu
  | .frd _ | .frdStatus _ | .frdId _ | .frdArray _ | .fwr _ _ | .fwrBusy _ _ | .fUnlock1 | .fReset _
  | .fUnlock2 | .fProgramSetup | .fEraseSetup | .fIdEntry | .fIdExit | .fProgramData _ _
  | .fEraseUnlock1 | .fEraseUnlock2 | .fChipErase | .fSectorErase _ | .fMismatch _ _ => .core
  | .tick | .tempo | .blink => .scheduler
  | .evNewline | .evHblankS | .evHblankE | .evHsyncS | .evHsyncE | .evPcgwin | .renderLine _ => .core
  | .present | .initCore _ _ | .reset | .snapSave | .snapLoad _ | .release => .host

/-- Who presents a request (R15); the flash-local forms stand for the core's own FRD and FWR. -/
def Request.agent : Request → Agent
  | .bus _ | .malformed _ _ => .cpu
  | .flashRd _ | .flashWr _ _ => .core
  | .tick | .tempo | .blink => .scheduler
  | .present | .initCore _ _ | .reset | .snapSave | .snapLoad _ | .release => .host

end Sys2Proof
end

