-- ==== Sys2Proof/WellFormed.lean ====
section
/-! DEFINITION. Which operands an operation of R96 can have on an instance. -/

namespace Sys2Proof

/-- A flash-local address of the instance (20 R60, 42 header: `fa` in 0..FLASH_SIZE-1). -/
def flashAddrOk (c : Config) (fa : Nat) : Bool := decide (fa < c.flashSize)

/-- The operands are ones the operation can have: an address of the PCG windows for MEM.PCGWIN (R183), an undefined port
for OUT_UNDEF (R149), a flash-local address for the FL operations, 0 or 1 for FRD_ID (R214), a visible line for
RENDER_LINE (R260), a configuration within R7 for INITIALIZE, a snapshot that SNAP_SAVE can produce for SNAP_LOAD (R336). -/
def Instr.wf (c : Config) : Instr → Bool
  | .memPcgwin _ a => decide (0xD000 ≤ a.toNat ∧ a.toNat ≤ 0xEFFF)
  | .outUndef p => decide (p ∉ c.definedPorts)
  | .frd fa | .frdStatus fa | .frdArray fa | .fReset fa | .fSectorErase fa => flashAddrOk c fa
  | .frdId fa => decide (fa ≤ 1)
  | .fwr fa _ | .fwrBusy fa _ | .fProgramData fa _ | .fMismatch fa _ => flashAddrOk c fa
  | .renderLine y => decide (y < visibleLines)
  | .initCore cfg _ => decide cfg.Ok
  | .snapLoad p => p.wf
  | .memrd _ | .memwr _ _ | .memMmioPio _ _ | .memMmioPit _ _ | .memMmioAux _ | .memPcgwData _
  | .memPcgwAddr _ | .memPcgwCtrl _ | .memBootflash _ _ | .memBootrom _ _ | .memVram _ _
  | .memWindow _ _ | .iord _ | .iowr _ _ | .outMonlOff | .outMonhOff | .outMonlOn | .outMonhOn
  | .outMonAll | .outPcgOpen _ | .outPcgClose | .outBootPage _ | .outPriority _ | .fUnlock1
  | .fUnlock2 | .fProgramSetup | .fEraseSetup | .fIdEntry | .fIdExit | .fEraseUnlock1
  | .fEraseUnlock2 | .fChipErase | .tick | .evNewline | .evHblankS | .evHblankE | .evHsyncS
  | .evHsyncE | .evPcgwin | .tempo | .blink | .present | .reset | .snapSave | .release => true

end Sys2Proof
end

