-- ==== Sys2Proof/Decode.lean ====
section
/-! DEFINITION. Decoding a request into the operation it is in the present state (30 R91, R94, R96 to R99), the encoder
beside it, and the decoder of the table's words. -/

namespace Sys2Proof

/-- Why bits or a request are no operation of the core. -/
inductive DecodeError where
  /-- More bits than a transaction code or a comparison code has (R91, R94). -/
  | noSuchCode
  /-- A flash-local operation on an instance without a flash: "The block exists only when BOOT = FLASH" (42). -/
  | noFlash
deriving DecidableEq, Repr

/-- What the decode reads of the state (R96 "when" column): configuration, latch, flash scalars. -/
structure Context where
  cfg : Config
  latch : Latch
  flash : FlashRegs
deriving DecidableEq, Repr

/-- The state after INITIALIZE and RESET as a context (R35). -/
def Context.powerOn (c : Config) : Context :=
  { cfg := c, latch := Latch.powerOn, flash := FlashRegs.powerOn }

/-! ## The comparison codes of the protocol (R94) -/

def fcUnlock1 : BitVec 23 := 0x5555AA#23
def fcUnlock2 : BitVec 23 := 0x2AAA55#23
def fcProgram : BitVec 23 := 0x5555A0#23
def fcErase : BitVec 23 := 0x555580#23
def fcChip : BitVec 23 := 0x555510#23
/-- `0x5555 : FLASH_CMD_ID_ENTRY` (R225). -/
def fcIdEntry (c : Config) : BitVec 23 := 0x5555#15 ++ c.flashCmdIdEntry
/-- `0x5555 : FLASH_CMD_ID_EXIT` (R226). -/
def fcIdExit (c : Config) : BitVec 23 := 0x5555#15 ++ c.flashCmdIdExit
/-- The sector-erase data byte (R94, R231). -/
def sectorByte : Byte := 0x30
/-- The reset data byte (R220). -/
def resetByte : Byte := 0xF0

/-! ## Decoding (R96 to R98) -/

/-- The operation of an intercepted address (R96, precedence 2). -/
def mmioOp (acc : Access) : MmioClass → Instr
  | .pio k => .memMmioPio acc k
  | .pit k => .memMmioPit acc k
  | .aux => .memMmioAux acc
  | .pcgwData => .memPcgwData acc
  | .pcgwAddr => .memPcgwAddr acc
  | .pcgwCtrl => .memPcgwCtrl acc

/-- What a MEMRD or MEMWR is, in the order of R97. -/
def memOp (x : Context) (acc : Access) (a : Addr) : Instr :=
  if inPcgWin x.cfg x.latch a then .memPcgwin acc a
  else match intercepted x.cfg x.latch a with
    | some k => mmioOp acc k
    | none =>
      if inBoot x.latch a then
        if x.cfg.hasFlash then .memBootflash acc (low12 a) else .memBootrom acc (low12 a)
      else if inVram x.cfg x.latch a then .memVram acc (low12 a)
      else .memWindow acc a

/-- What an IOWR is, in the order of R96 (R139, R99 (a)). -/
def portOp (c : Config) (p : Port) (v : Byte) : Instr :=
  if p = c.ports.monlOff then .outMonlOff
  else if p = c.ports.monhOff then .outMonhOff
  else if p = c.ports.monlOn then .outMonlOn
  else if p = c.ports.monhOn then .outMonhOn
  else if p = c.ports.monAll then .outMonAll
  else if c.overlay && p == c.ports.pcgOpen then .outPcgOpen (v.extractLsb' 0 2)
  else if c.overlay && p == c.ports.pcgClose then .outPcgClose
  else if c.hasFlash && p == c.ports.bootPage then .outBootPage v
  else if c.overlay && p == c.ports.priority then .outPriority (v.extractLsb' 0 2)
  else .outUndef p

/-- What an FRD is (R98). -/
def frdOp (x : Context) (fa : Nat) : Instr :=
  if 0 < x.flash.busy then .frdStatus fa
  else if x.flash.idMode && decide (fa ≤ 1) then .frdId fa
  else .frdArray fa

/-- What an FWR is (R98, R233). -/
def fwrOp (x : Context) (fa : Nat) (v : Byte) : Instr :=
  let fc := comparisonCode x.cfg fa v
  if 0 < x.flash.busy then .fwrBusy fa v
  else match x.flash.cycle with
    | .idle =>
      if fc = fcUnlock1 then .fUnlock1
      else if v = resetByte ∧ x.cfg.f0Policy = .idleOnly then .fReset fa
      else .fMismatch fa v
    | .unlock1 => if fc = fcUnlock2 then .fUnlock2 else .fMismatch fa v
    | .unlock2 =>
      if fc = fcProgram then .fProgramSetup
      else if fc = fcErase then .fEraseSetup
      else if fc = fcIdEntry x.cfg then .fIdEntry
      else if fc = fcIdExit x.cfg then .fIdExit
      else .fMismatch fa v
    | .programSel => .fProgramData fa v
    | .eraseSel => if fc = fcUnlock1 then .fEraseUnlock1 else .fMismatch fa v
    | .eraseUnlock1 => if fc = fcUnlock2 then .fEraseUnlock2 else .fMismatch fa v
    | .eraseUnlock2 =>
      if fc = fcChip then .fChipErase
      else if v = sectorByte then .fSectorErase fa
      else .fMismatch fa v

/-- A flash-local address reduced to the width of the space (20 R60, 60 R322). -/
def maskFa (c : Config) (fa : Nat) : Nat := fa % c.flashSize

/-- The carrier operation of a request: the fields of R91, no state but the configuration. -/
def carrier (c : Config) : Request → Except DecodeError Instr
  | .bus tc =>
    .ok (match (tcKind tc).toNat with
      | 0 => .memrd (tcAddr tc)
      | 1 => .memwr (tcAddr tc) (tcData tc)
      | 2 => .iord (tcPort tc)
      | _ => .iowr (tcPort tc) (tcData tc))
  | .flashRd fa => if c.hasFlash then .ok (.frd (maskFa c fa)) else .error .noFlash
  | .flashWr fa v => if c.hasFlash then .ok (.fwr (maskFa c fa) v) else .error .noFlash
  | .tick => .ok .tick
  | .tempo => .ok .tempo
  | .blink => .ok .blink
  | .present => .ok .present
  | .initCore cfg images => .ok (.initCore cfg images)
  | .reset => .ok .reset
  | .snapSave => .ok .snapSave
  | .snapLoad p => .ok (.snapLoad p)
  | .release => .ok .release
  | .malformed _ _ => .error .noSuchCode

/-- The operation a request is in a state: "a decoded operation is what the carrier is in that state" (R96). -/
def decode (x : Context) : Request → Except DecodeError Instr
  | .bus tc =>
    .ok (match (tcKind tc).toNat with
      | 0 => memOp x .read (tcAddr tc)
      | 1 => memOp x (.write (tcData tc)) (tcAddr tc)
      | 2 => .iord (tcPort tc)
      | _ => portOp x.cfg (tcPort tc) (tcData tc))
  | .flashRd fa => if x.cfg.hasFlash then .ok (frdOp x (maskFa x.cfg fa)) else .error .noFlash
  | .flashWr fa v => if x.cfg.hasFlash then .ok (fwrOp x (maskFa x.cfg fa) v) else .error .noFlash
  | .tick => .ok .tick
  | .tempo => .ok .tempo
  | .blink => .ok .blink
  | .present => .ok .present
  | .initCore cfg images => .ok (.initCore cfg images)
  | .reset => .ok .reset
  | .snapSave => .ok .snapSave
  | .snapLoad p => .ok (.snapLoad p)
  | .release => .ok .release
  | .malformed _ _ => .error .noSuchCode

/-! ## Encoding (R91, R94, R96) -/

/-- The transaction code of a MEM operation: kind 00 with data 00, or kind 01 with the byte written (R91). -/
def encodeMem (acc : Access) (a : Addr) : Request :=
  match acc with
  | .read => .bus (mkTc 0 a 0)
  | .write v => .bus (mkTc 1 a v)

/-- The transaction code of a port write: `addr[15:8]` is written as 00 (R91, R93). -/
def encodeOut (p : Port) (v : Byte) : Request := .bus (mkTc 3 (p.setWidth 16) v)

/-- The request of an operation on an instance; none for the core's own events, which have no encoding and are never
issued from outside (41 R170). -/
def encode (c : Config) : Instr → Option Request
  | .memrd a => some (encodeMem .read a)
  | .memwr a v => some (encodeMem (.write v) a)
  | .memPcgwin acc a => some (encodeMem acc a)
  | .memMmioPio acc k => some (encodeMem acc (c.mmio.pioBase + k.setWidth 16))
  | .memMmioPit acc k => some (encodeMem acc (c.mmio.pitBase + k.setWidth 16))
  | .memMmioAux acc => some (encodeMem acc c.mmio.aux)
  | .memPcgwData acc => some (encodeMem acc c.mmio.pcgData)
  | .memPcgwAddr acc => some (encodeMem acc c.mmio.pcgAddr)
  | .memPcgwCtrl acc => some (encodeMem acc c.mmio.pcgCtrl)
  | .memBootflash acc off => some (encodeMem acc (bootAddr off))
  | .memBootrom acc off => some (encodeMem acc (bootAddr off))
  | .memVram acc off => some (encodeMem acc (vramAddr off))
  | .memWindow acc a => some (encodeMem acc a)
  | .iord p => some (.bus (mkTc 2 (p.setWidth 16) 0))
  | .iowr p v => some (encodeOut p v)
  | .outMonlOff => some (encodeOut c.ports.monlOff 0)
  | .outMonhOff => some (encodeOut c.ports.monhOff 0)
  | .outMonlOn => some (encodeOut c.ports.monlOn 0)
  | .outMonhOn => some (encodeOut c.ports.monhOn 0)
  | .outMonAll => some (encodeOut c.ports.monAll 0)
  | .outPcgOpen b => some (encodeOut c.ports.pcgOpen (b.setWidth 8))
  | .outPcgClose => some (encodeOut c.ports.pcgClose 0)
  | .outBootPage v => some (encodeOut c.ports.bootPage v)
  | .outPriority p => some (encodeOut c.ports.priority (p.setWidth 8))
  | .outUndef p => some (encodeOut p 0)
  | .frd fa => some (.flashRd fa)
  | .frdStatus fa => some (.flashRd fa)
  | .frdId fa => some (.flashRd fa)
  | .frdArray fa => some (.flashRd fa)
  | .fwr fa v => some (.flashWr fa v)
  | .fwrBusy fa v => some (.flashWr fa v)
  | .fUnlock1 => some (.flashWr 0x5555 0xAA)
  | .fReset fa => some (.flashWr fa resetByte)
  | .fUnlock2 => some (.flashWr 0x2AAA 0x55)
  | .fProgramSetup => some (.flashWr 0x5555 0xA0)
  | .fEraseSetup => some (.flashWr 0x5555 0x80)
  | .fIdEntry => some (.flashWr 0x5555 c.flashCmdIdEntry)
  | .fIdExit => some (.flashWr 0x5555 c.flashCmdIdExit)
  | .fProgramData fa v => some (.flashWr fa v)
  | .fEraseUnlock1 => some (.flashWr 0x5555 0xAA)
  | .fEraseUnlock2 => some (.flashWr 0x2AAA 0x55)
  | .fChipErase => some (.flashWr 0x5555 0x10)
  | .fSectorErase fa => some (.flashWr fa sectorByte)
  | .fMismatch fa v => some (.flashWr fa v)
  | .tick => some .tick
  | .tempo => some .tempo
  | .blink => some .blink
  | .present => some .present
  | .initCore cfg images => some (.initCore cfg images)
  | .reset => some .reset
  | .snapSave => some .snapSave
  | .snapLoad p => some (.snapLoad p)
  | .release => some .release
  | .evNewline | .evHblankS | .evHblankE | .evHsyncS | .evHsyncE | .evPcgwin | .renderLine _ => none

/-! ## The "when" column of R96 -/

/-- The flash is idle in cycle state `k` (R98: busy is tested first). -/
def flashAt (x : Context) (k : Cycle) : Bool :=
  x.cfg.hasFlash && decide (x.flash.busy = 0) && decide (x.flash.cycle = k)

/-- No command of R96 matches a write in the present cycle state (the condition of F_MISMATCH, R232). -/
def noCommand (x : Context) (fa : Nat) (v : Byte) : Bool :=
  let fc := comparisonCode x.cfg fa v
  match x.flash.cycle with
  | .idle => decide (fc ≠ fcUnlock1) && !(decide (v = resetByte) && decide (x.cfg.f0Policy = .idleOnly))
  | .unlock1 | .eraseUnlock1 => decide (fc ≠ fcUnlock2)
  | .unlock2 =>
    decide (fc ≠ fcProgram) && decide (fc ≠ fcErase) && decide (fc ≠ fcIdEntry x.cfg)
      && decide (fc ≠ fcIdExit x.cfg)
  | .programSel => false
  | .eraseSel => decide (fc ≠ fcUnlock1)
  | .eraseUnlock2 => decide (fc ≠ fcChip) && decide (v ≠ sectorByte)

/-- The condition of a row of R96 in a context, the earlier rows of its carrier excluded (R97): where it holds, a request
with the row's encoding is that operation. A carrier is never what a decoded request is, and the core's own events are
never requested. -/
def rowHolds (x : Context) : Instr → Bool
  | .memPcgwin _ a => inPcgWin x.cfg x.latch a
  | .memMmioPio _ k => intercepted x.cfg x.latch (x.cfg.mmio.pioBase + k.setWidth 16) == some (.pio k)
  | .memMmioPit _ k => intercepted x.cfg x.latch (x.cfg.mmio.pitBase + k.setWidth 16) == some (.pit k)
  | .memMmioAux _ => intercepted x.cfg x.latch x.cfg.mmio.aux == some .aux
  | .memPcgwData _ => intercepted x.cfg x.latch x.cfg.mmio.pcgData == some .pcgwData
  | .memPcgwAddr _ => intercepted x.cfg x.latch x.cfg.mmio.pcgAddr == some .pcgwAddr
  | .memPcgwCtrl _ => intercepted x.cfg x.latch x.cfg.mmio.pcgCtrl == some .pcgwCtrl
  | .memBootflash _ _ => x.latch.monL && x.cfg.hasFlash
  | .memBootrom _ _ => x.latch.monL && !x.cfg.hasFlash
  | .memVram _ _ => x.latch.monH && !pcgOpen x.cfg x.latch
  | .memWindow _ a =>
    !inPcgWin x.cfg x.latch a && (intercepted x.cfg x.latch a).isNone && !inBoot x.latch a
      && !inVram x.cfg x.latch a
  | .iord _ | .outMonlOff | .outMonhOff | .outMonlOn | .outMonhOn | .outMonAll => true
  | .outPcgOpen _ | .outPcgClose | .outPriority _ => x.cfg.overlay
  | .outBootPage _ => x.cfg.hasFlash
  | .outUndef p => decide (p ∉ x.cfg.definedPorts)
  | .frdStatus _ => x.cfg.hasFlash && decide (0 < x.flash.busy)
  | .frdId _ => x.cfg.hasFlash && decide (x.flash.busy = 0) && x.flash.idMode
  | .frdArray fa =>
    x.cfg.hasFlash && decide (x.flash.busy = 0) && !(x.flash.idMode && decide (fa ≤ 1))
  | .fwrBusy _ _ => x.cfg.hasFlash && decide (0 < x.flash.busy)
  | .fUnlock1 => flashAt x .idle
  | .fReset _ => flashAt x .idle && decide (x.cfg.f0Policy = .idleOnly)
  | .fUnlock2 => flashAt x .unlock1
  | .fProgramSetup | .fEraseSetup | .fIdEntry | .fIdExit => flashAt x .unlock2
  | .fProgramData _ _ => flashAt x .programSel
  | .fEraseUnlock1 => flashAt x .eraseSel
  | .fEraseUnlock2 => flashAt x .eraseUnlock1
  | .fChipErase | .fSectorErase _ => flashAt x .eraseUnlock2
  | .fMismatch fa v => x.cfg.hasFlash && decide (x.flash.busy = 0) && noCommand x fa v
  | .tick | .tempo | .blink | .present | .initCore _ _ | .reset | .snapSave | .snapLoad _
  | .release => true
  | .memrd _ | .memwr _ _ | .iowr _ _ | .frd _ | .fwr _ _ => false
  | .evNewline | .evHblankS | .evHblankE | .evHsyncS | .evHsyncE | .evPcgwin | .renderLine _ => false

/-! ## The words of spec/opcode_table.json (log entry 5) -/

/-- The request a table word stands for: 25 to 32 bits a transaction code (R91), 1 to 24 bits a comparison code
(R94), the flash-local address being its 15 compared bits. Anything wider is no code. -/
def tableRequest (nbits w : Nat) : Except DecodeError Request :=
  if 24 < nbits ∧ nbits ≤ 32 ∧ w < 2 ^ 26 then .ok (.bus (BitVec.ofNat 26 w))
  else if 0 < nbits ∧ nbits ≤ 24 ∧ w < 2 ^ 23 then .ok (.flashWr (w / 256) (BitVec.ofNat 8 w))
  else .error .noSuchCode

/-- The cycle state in which a flash word is read from the table: the first of R211 in which it is a command, else
`IDLE`. -/
def tableCycle (c : Config) (fa : Nat) (v : Byte) : Cycle :=
  let fc := comparisonCode c fa v
  if fc = fcUnlock1 then .idle
  else if fc = fcUnlock2 then .unlock1
  else if fc = fcProgram ∨ fc = fcErase ∨ fc = fcIdEntry c ∨ fc = fcIdExit c then .unlock2
  else if fc = fcChip ∨ v = sectorByte then .eraseUnlock2
  else .idle

/-- The state a table word is read in, since which operation a word is depends on it (R96): the power-on state of the
reference instance, with the cycle state of `tableCycle` for a flash word, and of the MZ700 with the PCG board for a
word that addresses its write port (R134). -/
def tableContext : Request → Context
  | .bus tc =>
    let m := Config.board700.mmio
    if (tcKind tc).toNat ≤ 1 ∧ (tcAddr tc = m.pcgData ∨ tcAddr tc = m.pcgAddr ∨ tcAddr tc = m.pcgCtrl)
    then Context.powerOn Config.board700
    else Context.powerOn Config.reference
  | .flashWr fa v =>
    { Context.powerOn Config.reference with
      flash := { FlashRegs.powerOn with cycle := tableCycle Config.reference fa v } }
  | .flashRd _ | .tick | .tempo | .blink | .present | .initCore _ _ | .reset | .snapSave | .snapLoad _
  | .release | .malformed _ _ => Context.powerOn Config.reference

/-- The instruction the decoder reads from a word of the table. -/
def decodeTableWord (nbits w : Nat) : Option Instr :=
  match tableRequest nbits w with
  | .error _ => none
  | .ok r => (decode (tableContext r) r).toOption

end Sys2Proof
end

