-- ==== Sys2Proof/Machine/State.lean ====
section
/-! DEFINITION. The state of the core (10_state.md R20 to R33), its outputs, the reasons an operation has no meaning,
and the state after reset (R35, 70 R350). -/

namespace Sys2Proof.Machine

/-- No operation of the core faults: "No operation in this core raises a fatal error during normal emulation"
(60 R320, R335). Nobody raises one; safe. -/
inductive Fault where
deriving DecidableEq, Repr

/-- Why an operation has no meaning in a state. All but the first are the preconditions of 60 R336 and the absence of the
flash; the spec asks a model to refuse there, "which errs toward unprovable": safe. -/
inductive Refusal where
  /-- Raised by exec's arm of an instruction that has no meaning yet; safe. -/
  | notModelled (mnemonic : String)
  /-- Raised by step for bits that are no code of 30 R90; safe. -/
  | noSuchCode
  /-- Raised by every operation but INITIALIZE on an instance that does not exist yet (R336 (a), 93 K18); safe. -/
  | notInitialized
  /-- Raised by a second INITIALIZE (R336 (a), 93 K18); safe. -/
  | alreadyInitialized
  /-- Raised by every operation after RELEASE (R336 (b), 93 K18); safe. -/
  | released
  /-- Raised by INITIALIZE with a configuration outside 00 R7 (R336 (c), 93 K4, K6, K7); safe. -/
  | badConfiguration
  /-- Raised by SNAP_LOAD for a body that no SNAP_SAVE produces under matching tags (R336 (d), 93 K19); safe. -/
  | forgedSnapshot
  /-- Raised by a flash operation of an instance with BOOT = ROM: "The block exists only when BOOT = FLASH" (42); safe. -/
  | flashAbsent
deriving DecidableEq, Repr

/-- The lifetime of an instance, "allocated at initialize, freed at release" (10 R31, 60 R336). -/
inductive Life where
  | unborn
  | live
  | released
deriving DecidableEq, Repr

/-- The output signals (00 R13, 60 R323). -/
inductive Sig where
  | hblank
  | hsync
  | vblank
  | vsync
  | tempo
  | blink
  | busreq
deriving DecidableEq, Repr

/-- A call of a peripheral collaborator (00 R13): `Periph.read(dev, k)` or `Periph.write(dev, k, v)`. -/
inductive PeriphCall where
  | read (dev : Dev) (k : Nat)
  | write (dev : Dev) (k : Nat) (v : Byte)
deriving DecidableEq, Repr

/-- What an operation returns to its agent (log entry 6). -/
inductive Result where
  /-- The operation returns nothing. -/
  | done
  /-- MEMRD: a byte and a wait count (40 R130). -/
  | memRead (b : Byte) (wait : Nat)
  /-- MEMWR: a wait count (40 R131). -/
  | memWrite (wait : Nat)
  /-- IORD and FRD: a byte (40 R150, 42 R212). -/
  | byte (b : Byte)
  /-- SNAP_SAVE: the snapshot (44 R301). -/
  | saved (snap : Snapshot)
  /-- SNAP_LOAD: a boolean (44 R302). -/
  | loaded (ok : Bool)
  /-- RELEASE: the flash image handed to the host, or nothing (44 R303). -/
  | image (img : Option (List Byte))
deriving DecidableEq, Repr

/-- The state of the core. `cfg`, `life`, `result`, `periph`, `draws` and `inbox` are the model's own fields (log entries
1, 4, 6, 7, 8); the others are the spec's. -/
structure State where
  cfg : Config
  life : Life
  latch : Latch
  raster : Raster
  flash : FlashRegs
  /-- `MODIFIED` (10 R30), not part of a snapshot (44 R300). -/
  modified : Bool
  mems : Memories
  video : Video
  /-- The output-signal trace, oldest first (00 R13). -/
  trace : List (Sig × Bool)
  result : Result
  /-- The calls made of peripheral collaborators, oldest first. -/
  periph : List PeriphCall
  /-- How many bytes collaborators have answered. -/
  draws : Nat
  /-- The operations the environment presents next, oldest first. -/
  inbox : List Request
deriving DecidableEq, Repr

/-- The machine right after reset: the reference instance after INITIALIZE with no images (70 R350, 10 R35;
log entries 2, 3). -/
def State.reset : State :=
  { cfg := Config.reference, life := .live, latch := Latch.powerOn, raster := Raster.powerOn,
    flash := FlashRegs.powerOn, modified := false, mems := Memories.filled, video := Video.blank,
    trace := [], result := .done, periph := [], draws := 0, inbox := [] }

/-- A machine that INITIALIZE has not been performed on, with operations to perform. -/
def State.unborn (inbox : List Request) : State :=
  { State.reset with life := .unborn, inbox := inbox }

end Sys2Proof.Machine
end

