-- ==== Sys2Proof/Machine/Ops.lean ====
section
/-! DEFINITION. The shared operations over the state: one byte of a buffer, the window access (40 R128, R129), output
signals (00 R13), the latch writers with their hard-wired registers (10 R21 to R25), peripheral calls (40 R132, R133), and
the entry and the release of the PCG stall (60 R326, R327), which take the place of taking an exception and returning
from one: the core has no trap entry (R326). -/

namespace Sys2Proof.Machine

/-! ## Preconditions (60 R336) -/

/-- The operation answers `t` on an existing instance and has no meaning before INITIALIZE or after RELEASE. -/
def State.whenLive (s : State) (t : State) : Host.Outcome State Fault Refusal :=
  match s.life with
  | .live => .next t
  | .unborn => .refused .notInitialized
  | .released => .refused .released

/-- The same for an operation of the flash block, which "exists only when BOOT = FLASH" (42). -/
def State.whenFlash (s : State) (t : State) : Host.Outcome State Fault Refusal :=
  match s.life with
  | .live => if s.cfg.hasFlash then .next t else .refused .flashAbsent
  | .unborn => .refused .notInitialized
  | .released => .refused .released

/-- The operation returns `r` to its agent. -/
def State.answer (s : State) (r : Result) : State := { s with result := r }

/-! ## Buffers -/

/-- The contents of a buffer. -/
def State.mem (s : State) : Buffer → Memory
  | .ipl => s.mems.ipl
  | .cgrom => s.mems.cgrom
  | .ext => s.mems.ext
  | .pcg => s.mems.pcg
  | .ram => s.mems.ram
  | .vram => s.mems.vram
  | .fstore => s.mems.fstore

/-- The memories with one buffer replaced. -/
def putMem (m : Memories) (b : Buffer) (x : Memory) : Memories :=
  match b with
  | .ipl => { m with ipl := x }
  | .cgrom => { m with cgrom := x }
  | .ext => { m with ext := x }
  | .pcg => { m with pcg := x }
  | .ram => { m with ram := x }
  | .vram => { m with vram := x }
  | .fstore => { m with fstore := x }

/-- `BUF[off]` (00 R11). -/
def State.peek (s : State) (b : Buffer) (off : Nat) : Byte := Sparse.get (fillOf s.cfg b) (s.mem b) off

/-- `BUF[off] <- v` (00 R11). -/
def State.poke (s : State) (b : Buffer) (off : Nat) (v : Byte) : State :=
  { s with mems := putMem s.mems b (Sparse.set (fillOf s.cfg b) (s.mem b) off v) }

/-- `WinRead(a)` (40 R128). -/
def State.winRead (s : State) (a : Addr) : Byte :=
  let w := derive s.cfg s.latch (windowIndex a)
  match w.rsrc.buffer with
  | none => dummyRead
  | some b => s.peek b (w.roff + windowOffset a)

/-- The buffer byte a write at `a` goes to, none when it is dropped (40 R129, 20 R70). -/
def State.winTarget (s : State) (a : Addr) : Option (Buffer × Nat) :=
  let w := derive s.cfg s.latch (windowIndex a)
  w.wsink.buffer.map (fun b => (b, w.woff + windowOffset a))

/-- `WinWrite(a, v)` (40 R129). -/
def State.winWrite (s : State) (a : Addr) (v : Byte) : State :=
  match s.winTarget a with
  | none => s
  | some (b, off) => s.poke b off v

/-- A window access that returns wait count `n`: the byte and `n` for a read, `n` for a write (40 R130, R131). -/
def State.winAccess (s : State) (acc : Access) (a : Addr) (n : Nat) : State :=
  match acc with
  | .read => s.answer (.memRead (s.winRead a) n)
  | .write v => (s.winWrite a v).answer (.memWrite n)

/-! ## Output signals (00 R13, 60 R323) -/

/-- The level of a signal is its flag (60 R323). -/
def sigLevel (r : Raster) : Sig → Bool
  | .hblank => r.hblank
  | .hsync => r.hsync
  | .vblank => r.vblank
  | .vsync => r.vsync
  | .tempo => r.tempo
  | .blink => r.blink
  | .busreq => r.stall

/-- The raster group with one signal's flag set. -/
def withLevel (r : Raster) (g : Sig) (v : Bool) : Raster :=
  match g with
  | .hblank => { r with hblank := v }
  | .hsync => { r with hsync := v }
  | .vblank => { r with vblank := v }
  | .vsync => { r with vsync := v }
  | .tempo => { r with tempo := v }
  | .blink => { r with blink := v }
  | .busreq => { r with stall := v }

/-- `FLAG <- v; emit SIG(name, v)`: the record is appended "only when the level changes" (41 header, 92 D26).
`STALL` exists only with `OVERLAY` and is hard-wired 0 without it (10 R29; log entry 12). -/
def State.drive (s : State) (g : Sig) (v : Bool) : State :=
  if sigLevel s.raster g = v ∨ (g = .busreq ∧ s.cfg.overlay = false) then s
  else { s with raster := withLevel s.raster g v, trace := s.trace ++ [(g, v)] }

/-! ## The latch, with the registers an instance lacks hard-wired to 0 (10 R21 to R25; log entry 12) -/

/-- `MON_L <- b`. -/
def State.setMonL (s : State) (b : Bool) : State := { s with latch.mode := modeWith s.latch.mode 0 b }
/-- `MON_H <- b`. -/
def State.setMonH (s : State) (b : Bool) : State := { s with latch.mode := modeWith s.latch.mode 1 b }
/-- `PCG_EN <- b`, present only with `OVERLAY`. -/
def State.setPcgEn (s : State) (b : Bool) : State :=
  if s.cfg.overlay then { s with latch.mode := modeWith s.latch.mode 2 b } else s
/-- `PCG_BANK <- k`, present only with `OVERLAY`. -/
def State.setPcgBank (s : State) (k : BitVec 2) : State :=
  if s.cfg.overlay then { s with latch.pcgBank := k } else s
/-- `PRIORITY <- p`, present only with `OVERLAY`. -/
def State.setPriority (s : State) (p : BitVec 2) : State :=
  if s.cfg.overlay then { s with latch.priority := p } else s
/-- `BOOT_PAGE <- v mod (FLASH_SIZE / 4096)`, present only with `BOOT = FLASH`. -/
def State.setBootPage (s : State) (v : Byte) : State :=
  if s.cfg.hasFlash then { s with latch.bootPage := v.toNat % s.cfg.pages } else s
/-- `PCG_DATA <- v`, present only with the PCG write port. -/
def State.setPcgData (s : State) (v : Byte) : State :=
  if s.cfg.hasPcgPort then { s with latch.pcgData := v } else s
/-- `PCG_ADDR <- v`, present only with the PCG write port. -/
def State.setPcgAddr (s : State) (v : Byte) : State :=
  if s.cfg.hasPcgPort then { s with latch.pcgAddr := v } else s
/-- `PCG_CTRL <- v`, present only with the PCG write port. -/
def State.setPcgCtrl (s : State) (v : Byte) : State :=
  if s.cfg.hasPcgPort then { s with latch.pcgCtrl := v } else s

/-! ## Peripheral collaborators (00 R13) -/

/-- `Periph.read(dev, k)` as the result of a MEMRD with wait 0: the byte is free (R132; log entry 7). -/
def State.periphRead (s : State) (dev : Dev) (k : Nat) : State :=
  { s with periph := s.periph ++ [.read dev k], draws := s.draws + 1,
           result := .memRead (Config.periphByte dev k s.draws) 0 }

/-- `Periph.write(dev, k, v)`, a MEMWR with wait 0: "No state of the core changes" (R133). -/
def State.periphWrite (s : State) (dev : Dev) (k : Nat) (v : Byte) : State :=
  { s with periph := s.periph ++ [.write dev k v], result := .memWrite 0 }

/-- An access to a peripheral register (R132, R133). -/
def State.periphAccess (s : State) (acc : Access) (dev : Dev) (k : Nat) : State :=
  match acc with
  | .read => s.periphRead dev k
  | .write v => s.periphWrite dev k v

/-! ## The PCG stall: entry and release (60 R326, R327) -/

/-- `PcgStallCheck()` (41 R183), the entry of the stall. -/
def State.pcgStallCheck (s : State) : State :=
  if s.raster.pcgSafe = false ∧ s.raster.stall = false then s.drive .busreq true else s

/-- The release of the stall, `if STALL = 1: STALL <- 0; emit SIG(BUSREQ, 0)` (41 R172, R182; 70 R351). -/
def State.releaseStall (s : State) : State := s.drive .busreq false

end Sys2Proof.Machine
end

