-- ==== Sys2Proof/Machine/Flash.lean ====
section
/-! DEFINITION. The flash-protocol command state machine and busy timer (42_flash_protocol.md): the FL operations. -/

namespace Sys2Proof.Machine

/-! ## Reads (R212 to R215) -/

/-- FRD_STATUS (R213): decrement, then the status byte of the stored byte with the new counter. -/
def State.flashStatus (s : State) (fa : Nat) : State × Byte :=
  ({ s with flash.busy := s.flash.busy - 1 }, statusByte (s.peek .fstore fa) (s.flash.busy - 1))

/-- FRD_ID (R214): `FLASH_MFR_ID` at 0, `FLASH_DEV_ID` at 1. -/
def flashIdByte (c : Config) (fa : Nat) : Byte := if fa = 0 then c.flashMfrId else c.flashDevId

/-- `FlashRead(fa)` (R212): the state after it and the byte. -/
def State.flashRead (s : State) (fa : Nat) : State × Byte :=
  if 0 < s.flash.busy then s.flashStatus fa
  else if s.flash.idMode && decide (fa = 0 ∨ fa = 1) then (s, flashIdByte s.cfg fa)
  else (s, s.peek .fstore fa)

/-! ## The effects of the commands (R219 to R232) -/

/-- `CYCLE <- k`. -/
def State.setCycle (s : State) (k : Cycle) : State := { s with flash.cycle := k }

/-- `ID_MODE <- 0`, the one effect of F_RESET (R220). -/
def State.leaveIdMode (s : State) : State := { s with flash.idMode := false }

/-- `ID_MODE <- b; CYCLE <- IDLE` (R225, R226). -/
def State.setIdMode (s : State) (b : Bool) : State :=
  { s with flash.idMode := b, flash.cycle := .idle }

/-- `BUSY <- n; MODIFIED <- 1; CYCLE <- IDLE`, the end of the three storing commands (R227, R230, R231). -/
def State.flashCommit (s : State) (n : Nat) : State :=
  { s with flash.busy := n, flash.cycle := .idle, modified := true }

/-- F_PROGRAM_DATA (R227): the byte is overwritten whatever it was. -/
def State.flashProgram (s : State) (fa : Nat) (v : Byte) : State :=
  (s.poke .fstore fa v).flashCommit busyProgram

/-- `FSTORE[i] <- 0xFF` for `n` bytes from `lo` on. -/
def State.flashFill (s : State) (lo n : Nat) : State :=
  { s with mems.fstore := Sparse.clear s.mems.fstore lo n }

/-- F_CHIP_ERASE (R230). -/
def State.flashChipErase (s : State) : State :=
  (s.flashFill 0 s.cfg.flashSize).flashCommit busyChip

/-- F_SECTOR_ERASE (R231): the whole 4KB sector that contains `fa`. -/
def State.flashSectorErase (s : State) (fa : Nat) : State :=
  (s.flashFill (sectorOf fa * flashSector) flashSector).flashCommit busySector

/-- F_MISMATCH (R232). -/
def State.flashMismatch (s : State) : State := s.setCycle .idle

/-! ## Writes (R216) -/

/-- `FlashWrite(fa, v)` (R216). -/
def State.flashWrite (s : State) (fa : Nat) (v : Byte) : State :=
  if 0 < s.flash.busy then s
  else
    let fc := comparisonCode s.cfg fa v
    match s.flash.cycle with
    | .idle =>
      if fc = fcUnlock1 then s.setCycle .unlock1
      else if v = resetByte ∧ s.cfg.f0Policy = .idleOnly then s.leaveIdMode
      else s.flashMismatch
    | .unlock1 => if fc = fcUnlock2 then s.setCycle .unlock2 else s.flashMismatch
    | .unlock2 =>
      if fc = fcProgram then s.setCycle .programSel
      else if fc = fcErase then s.setCycle .eraseSel
      else if fc = fcIdEntry s.cfg then s.setIdMode true
      else if fc = fcIdExit s.cfg then s.setIdMode false
      else s.flashMismatch
    | .programSel => s.flashProgram fa v
    | .eraseSel => if fc = fcUnlock1 then s.setCycle .eraseUnlock1 else s.flashMismatch
    | .eraseUnlock1 => if fc = fcUnlock2 then s.setCycle .eraseUnlock2 else s.flashMismatch
    | .eraseUnlock2 =>
      if fc = fcChip then s.flashChipErase
      else if v = sectorByte then s.flashSectorErase fa
      else s.flashMismatch

/-! ## The meanings. The conditions of the decoded rows are the decoder's (R96, R98; log entry 9). -/

/-- FRD (R212). -/
def execFrd (fa : Nat) (s : State) : Host.Outcome State Fault Refusal :=
  s.whenFlash ((s.flashRead fa).1.answer (.byte (s.flashRead fa).2))

/-- FRD_STATUS (R213). -/
def execFrdStatus (fa : Nat) (s : State) : Host.Outcome State Fault Refusal :=
  s.whenFlash ((s.flashStatus fa).1.answer (.byte (s.flashStatus fa).2))

/-- FRD_ID (R214): no state written. -/
def execFrdId (fa : Nat) (s : State) : Host.Outcome State Fault Refusal :=
  s.whenFlash (s.answer (.byte (flashIdByte s.cfg fa)))

/-- FRD_ARRAY (R215): no state written. -/
def execFrdArray (fa : Nat) (s : State) : Host.Outcome State Fault Refusal :=
  s.whenFlash (s.answer (.byte (s.peek .fstore fa)))

/-- FWR (R216). -/
def execFwr (fa : Nat) (v : Byte) (s : State) : Host.Outcome State Fault Refusal :=
  s.whenFlash ((s.flashWrite fa v).answer .done)

/-- FWR_BUSY (R217): nothing at all. -/
def execFwrBusy (_fa : Nat) (_v : Byte) (s : State) : Host.Outcome State Fault Refusal :=
  s.whenFlash (s.answer .done)

/-- F_UNLOCK1 (R219). -/
def execFUnlock1 (s : State) : Host.Outcome State Fault Refusal :=
  s.whenFlash ((s.setCycle .unlock1).answer .done)

/-- F_RESET (R220): `ID_MODE <- 0`, and `CYCLE` stays `IDLE`. -/
def execFReset (_fa : Nat) (s : State) : Host.Outcome State Fault Refusal :=
  s.whenFlash (s.leaveIdMode.answer .done)

/-- F_UNLOCK2 (R221). -/
def execFUnlock2 (s : State) : Host.Outcome State Fault Refusal :=
  s.whenFlash ((s.setCycle .unlock2).answer .done)

/-- F_PROGRAM_SETUP (R223). -/
def execFProgramSetup (s : State) : Host.Outcome State Fault Refusal :=
  s.whenFlash ((s.setCycle .programSel).answer .done)

/-- F_ERASE_SETUP (R224). -/
def execFEraseSetup (s : State) : Host.Outcome State Fault Refusal :=
  s.whenFlash ((s.setCycle .eraseSel).answer .done)

/-- F_ID_ENTRY (R225). -/
def execFIdEntry (s : State) : Host.Outcome State Fault Refusal :=
  s.whenFlash ((s.setIdMode true).answer .done)

/-- F_ID_EXIT (R226). -/
def execFIdExit (s : State) : Host.Outcome State Fault Refusal :=
  s.whenFlash ((s.setIdMode false).answer .done)

/-- F_PROGRAM_DATA (R227). -/
def execFProgramData (fa : Nat) (v : Byte) (s : State) : Host.Outcome State Fault Refusal :=
  s.whenFlash ((s.flashProgram fa v).answer .done)

/-- F_ERASE_UNLOCK1 (R228). -/
def execFEraseUnlock1 (s : State) : Host.Outcome State Fault Refusal :=
  s.whenFlash ((s.setCycle .eraseUnlock1).answer .done)

/-- F_ERASE_UNLOCK2 (R229). -/
def execFEraseUnlock2 (s : State) : Host.Outcome State Fault Refusal :=
  s.whenFlash ((s.setCycle .eraseUnlock2).answer .done)

/-- F_CHIP_ERASE (R230). -/
def execFChipErase (s : State) : Host.Outcome State Fault Refusal :=
  s.whenFlash (s.flashChipErase.answer .done)

/-- F_SECTOR_ERASE (R231). -/
def execFSectorErase (fa : Nat) (s : State) : Host.Outcome State Fault Refusal :=
  s.whenFlash ((s.flashSectorErase fa).answer .done)

/-- F_MISMATCH (R232). -/
def execFMismatch (_fa : Nat) (_v : Byte) (s : State) : Host.Outcome State Fault Refusal :=
  s.whenFlash (s.flashMismatch.answer .done)

end Sys2Proof.Machine
end

