-- ==== Sys2Proof/Machine/Bus.lean ====
section
/-! DEFINITION. The MEM operations (40 R127 to R138, 41 R180, R181, R183): the dispatch of MEMRD and MEMWR and what they
decode to. Each access sets the result: a byte and a wait count for a read, a wait count for a write. -/

namespace Sys2Proof.Machine

/-! ## The classes of accesses -/

/-- MEM.PCGWIN (41 R183): the stall check, then the window access, wait 0. -/
def State.accPcgwin (s : State) (acc : Access) (a : Addr) : State :=
  s.pcgStallCheck.winAccess acc a 0

/-- MEM.PCGW_DATA (40 R135, R136). -/
def State.accPcgwData (s : State) : Access → State
  | .read => s.answer (.memRead dummyRead 0)
  | .write v => (s.setPcgData v).answer (.memWrite 0)

/-- MEM.PCGW_ADDR (40 R135, R137). -/
def State.accPcgwAddr (s : State) : Access → State
  | .read => s.answer (.memRead dummyRead 0)
  | .write v => (s.setPcgAddr v).answer (.memWrite 0)

/-- The rising edge of the write strobe, bit 4 of the control byte (40 R138). -/
def State.pcgStrobe (s : State) (d : Byte) : Bool :=
  s.cfg.hasPcgPort && !s.latch.pcgCtrl.getLsbD 4 && d.getLsbD 4

/-- The pattern-cell write of a control byte that carries the edge (40 R138). -/
def State.pcgPortWrite (s : State) (d : Byte) : State :=
  let off := (pcgPortOffset d s.latch.pcgAddr).toNat
  if s.pcgStrobe d then
    s.poke .pcg off (if d.getLsbD 5 then s.peek .cgrom (off % s.cfg.cgSize) else s.latch.pcgData)
  else s

/-- MEM.PCGW_CTRL (40 R135, R138). -/
def State.accPcgwCtrl (s : State) : Access → State
  | .read => s.answer (.memRead dummyRead 0)
  | .write d => ((s.pcgPortWrite d).setPcgCtrl d).answer (.memWrite 0)

/-- `MmioRead(a)`, `MmioWrite(a, v)` by class (40 R132, R133, R135 to R138). -/
def State.accMmio (s : State) (acc : Access) : MmioClass → State
  | .pio k => s.periphAccess acc .pio k.toNat
  | .pit k => s.periphAccess acc .pit k.toNat
  | .aux => s.periphAccess acc .aux 0
  | .pcgwData => s.accPcgwData acc
  | .pcgwAddr => s.accPcgwAddr acc
  | .pcgwCtrl => s.accPcgwCtrl acc

/-- MEM.BOOTFLASH (40 R127): FRD or FWR at `BOOT_PAGE : a[11:0]`, wait 0. -/
def State.accBootflash (s : State) (acc : Access) (off : BitVec 12) : State :=
  let fa := flashLocal s.latch.bootPage off
  match acc with
  | .read => (s.flashRead fa).1.answer (.memRead (s.flashRead fa).2 0)
  | .write v => (s.flashWrite fa v).answer (.memWrite 0)

/-- MEM.BOOTROM (41 R180): the window access, wait 1. -/
def State.accBootrom (s : State) (acc : Access) (off : BitVec 12) : State :=
  s.winAccess acc (bootAddr off) 1

/-- MEM.VRAM (41 R181): the window access with `VramWait()` of the state before it. -/
def State.accVram (s : State) (acc : Access) (off : BitVec 12) : State :=
  s.winAccess acc (vramAddr off) (vramWait s.cfg s.raster)

/-- MEM.WINDOW (40 R128, R129): the Bank Map access, wait 0. -/
def State.accWindow (s : State) (acc : Access) (a : Addr) : State := s.winAccess acc a 0

/-- MEMRD and MEMWR (40 R130, R131). -/
def State.memAccess (s : State) (acc : Access) (a : Addr) : State :=
  if inPcgWin s.cfg s.latch a then s.accPcgwin acc a
  else match intercepted s.cfg s.latch a with
    | some k => s.accMmio acc k
    | none =>
      if inBoot s.latch a then
        if s.cfg.hasFlash then s.accBootflash acc (low12 a) else s.accBootrom acc (low12 a)
      else if inVram s.cfg s.latch a then s.accVram acc (low12 a)
      else s.accWindow acc a

/-! ## The meanings -/

/-- MEMRD (40 R130). -/
def execMemrd (a : Addr) (s : State) : Host.Outcome State Fault Refusal :=
  s.whenLive (s.memAccess .read a)

/-- MEMWR (40 R131). -/
def execMemwr (a : Addr) (v : Byte) (s : State) : Host.Outcome State Fault Refusal :=
  s.whenLive (s.memAccess (.write v) a)

/-- MEM.PCGWIN (41 R183). -/
def execMemPcgwin (acc : Access) (a : Addr) (s : State) : Host.Outcome State Fault Refusal :=
  s.whenLive (s.accPcgwin acc a)

/-- MEM.MMIO_PIO (40 R132, R133). -/
def execMemMmioPio (acc : Access) (k : BitVec 2) (s : State) : Host.Outcome State Fault Refusal :=
  s.whenLive (s.accMmio acc (.pio k))

/-- MEM.MMIO_PIT (40 R132, R133). -/
def execMemMmioPit (acc : Access) (k : BitVec 2) (s : State) : Host.Outcome State Fault Refusal :=
  s.whenLive (s.accMmio acc (.pit k))

/-- MEM.MMIO_AUX (40 R132, R133). -/
def execMemMmioAux (acc : Access) (s : State) : Host.Outcome State Fault Refusal :=
  s.whenLive (s.accMmio acc .aux)

/-- MEM.PCGW_DATA (40 R135, R136). -/
def execMemPcgwData (acc : Access) (s : State) : Host.Outcome State Fault Refusal :=
  s.whenLive (s.accPcgwData acc)

/-- MEM.PCGW_ADDR (40 R135, R137). -/
def execMemPcgwAddr (acc : Access) (s : State) : Host.Outcome State Fault Refusal :=
  s.whenLive (s.accPcgwAddr acc)

/-- MEM.PCGW_CTRL (40 R135, R138). -/
def execMemPcgwCtrl (acc : Access) (s : State) : Host.Outcome State Fault Refusal :=
  s.whenLive (s.accPcgwCtrl acc)

/-- MEM.BOOTFLASH (40 R127). -/
def execMemBootflash (acc : Access) (off : BitVec 12) (s : State) : Host.Outcome State Fault Refusal :=
  s.whenFlash (s.accBootflash acc off)

/-- MEM.BOOTROM (41 R180). -/
def execMemBootrom (acc : Access) (off : BitVec 12) (s : State) : Host.Outcome State Fault Refusal :=
  s.whenLive (s.accBootrom acc off)

/-- MEM.VRAM (41 R181). -/
def execMemVram (acc : Access) (off : BitVec 12) (s : State) : Host.Outcome State Fault Refusal :=
  s.whenLive (s.accVram acc off)

/-- MEM.WINDOW (40 R128, R129). -/
def execMemWindow (acc : Access) (a : Addr) (s : State) : Host.Outcome State Fault Refusal :=
  s.whenLive (s.accWindow acc a)

end Sys2Proof.Machine
end

