-- ==== Sys2Proof/Machine/HostCalls.lean ====
section
/-! DEFINITION. The host's calls: INITIALIZE and RESET (70 R350 to R352), SNAP_SAVE, SNAP_LOAD, RELEASE (44). PRESENT is in
Renderer.lean. -/

namespace Sys2Proof.Machine

/-! ## INITIALIZE (R350, R352) -/

/-- The PCG buffer after INITIALIZE: all fill, and on the MZ700 with the PCG board seeded from the character ROM in
`0x000`-`0x3FF` and `0x800`-`0xBFF` (R350). -/
def initPcg (c : Config) (cgrom : Memory) : Memory :=
  if c.hasPcgPort then
    Sparse.tabulate (fillOf c .pcg) (Sparse.get (fillOf c .cgrom) cgrom) 0 0x400
      ++ Sparse.tabulate (fillOf c .pcg) (Sparse.get (fillOf c .cgrom) cgrom) 0x800 0x400
  else []

/-- The memories after INITIALIZE (R350): fills, then images. -/
def initMems (c : Config) (im : Images) : Memories :=
  let cg := loadImage (fillOf c .cgrom) c.cgSize im.cg
  { ipl := loadImage (fillOf c .ipl) c.iplSize im.ipl
    cgrom := cg
    ext := if c.extrom then loadImage (fillOf c .ext) c.extSize im.ext else []
    fstore := if c.hasFlash then loadImage (fillOf c .fstore) c.flashSize im.flash else []
    ram := []
    vram := []
    pcg := initPcg c cg }

/-- The state INITIALIZE leaves (R350, R35). No signal is emitted. -/
def initState (c : Config) (im : Images) (s : State) : State :=
  { s with cfg := c, life := .live, latch := Latch.powerOn, raster := Raster.powerOn,
           flash := FlashRegs.powerOn, modified := false, mems := initMems c im, video := Video.blank }

/-! ## RESET (R351) -/

/-- RESET: drop the level signals in the order of R351, then the power-on values; memories kept. -/
def State.resetCore (s : State) : State :=
  let s := (((((s.drive .hblank false).drive .hsync false).drive .vblank false).drive .vsync false).drive .tempo
    false).drive .blink false
  let s := s.releaseStall
  { s with latch := Latch.powerOn, raster := Raster.powerOn, flash := FlashRegs.powerOn }

/-! ## Snapshots (44) -/

/-- The snapshot of the state (R300, R301). -/
def State.snapshot (s : State) : Snapshot :=
  { version := s.cfg.revision, identity := s.cfg, pcg := s.mems.pcg, ram := s.mems.ram, vram := s.mems.vram,
    fstore := s.mems.fstore, latch := s.latch, timing := s.raster, flash := s.flash }

/-- The tags of a snapshot are the instance's (R302). -/
def State.tagsMatch (s : State) (p : Snapshot) : Bool :=
  decide (p.version = s.cfg.revision) && decide (p.identity = s.cfg)

/-- The restored state (R302): memories and scalars, `MODIFIED <- 1` when `BOOT = FLASH`, and `BUSREQ` emitted if
`STALL` changed; no other signal. -/
def State.restore (s : State) (p : Snapshot) : State :=
  { s with mems := { s.mems with pcg := p.pcg, ram := p.ram, vram := p.vram, fstore := p.fstore },
           latch := p.latch, raster := { p.timing with stall := s.raster.stall }, flash := p.flash,
           modified := s.cfg.hasFlash || s.modified }.drive .busreq p.timing.stall

/-! ## RELEASE (44 R303) -/

/-- All of `FSTORE`, byte 0 first. -/
def State.flashImage (s : State) : List Byte := (List.range s.cfg.flashSize).map (s.peek .fstore)

/-! ## The meanings -/

/-- INITIALIZE (R350): the first operation of an instance, once (R336 (a)), with a configuration within R7
(R336 (c)). -/
def execInitCore (c : Config) (im : Images) (s : State) : Host.Outcome State Fault Refusal :=
  match s.life with
  | .unborn => if c.Ok then .next ((initState c im s).answer .done) else .refused .badConfiguration
  | .live => .refused .alreadyInitialized
  | .released => .refused .released

/-- RESET (R351). -/
def execReset (s : State) : Host.Outcome State Fault Refusal := s.whenLive (s.resetCore.answer .done)

/-- SNAP_SAVE (R301): no state written, no signal. -/
def execSnapSave (s : State) : Host.Outcome State Fault Refusal := s.whenLive (s.answer (.saved s.snapshot))

/-- SNAP_LOAD (R302): false and nothing changed on a tag mismatch; a body under matching tags that no SNAP_SAVE produces
is outside the rules (93 K19). -/
def execSnapLoad (p : Snapshot) (s : State) : Host.Outcome State Fault Refusal :=
  match s.life with
  | .live =>
    if s.tagsMatch p then
      if p.wf then .next ((s.restore p).answer (.loaded true)) else .refused .forgedSnapshot
    else .next (s.answer (.loaded false))
  | .unborn => .refused .notInitialized
  | .released => .refused .released

/-- RELEASE (R303): the flash image goes to the host iff `BOOT = FLASH` and `MODIFIED`; the instance ends. -/
def execRelease (s : State) : Host.Outcome State Fault Refusal :=
  s.whenLive { s with life := .released,
                      result := .image (if s.cfg.hasFlash && s.modified then some s.flashImage else none) }

end Sys2Proof.Machine
end

