-- ==== Sys2Proof/Machine/PortOps.lean ====
section
/-! DEFINITION. The IO operations (40 R139 to R150): the Mode Latch ports, the boot-page port, the priority port. "No port
rule changes a memory buffer, a raster flag or a flash element, returns a value, or returns a wait count" (R139). -/

namespace Sys2Proof.Machine

/-! ## The effects of the ports -/

/-- OUT_MON_ALL (R144): `MON_L <- 1; MON_H <- 1; PCG_EN <- 0`. -/
def State.portMonAll (s : State) : State := ((s.setMonL true).setMonH true).setPcgEn false

/-- OUT_PCG_OPEN (R145): `PCG_EN <- 1; PCG_BANK <- data[1:0]`. -/
def State.portPcgOpen (s : State) (bank : BitVec 2) : State := (s.setPcgEn true).setPcgBank bank

/-- IOWR (R139): the rule of the port that matches, nothing when none does. -/
def State.portWrite (s : State) (p : Port) (v : Byte) : State :=
  let q := s.cfg.ports
  if p = q.monlOff then s.setMonL false
  else if p = q.monhOff then s.setMonH false
  else if p = q.monlOn then s.setMonL true
  else if p = q.monhOn then s.setMonH true
  else if p = q.monAll then s.portMonAll
  else if s.cfg.overlay && p == q.pcgOpen then s.portPcgOpen (v.extractLsb' 0 2)
  else if s.cfg.overlay && p == q.pcgClose then s.setPcgEn false
  else if s.cfg.hasFlash && p == q.bootPage then s.setBootPage v
  else if s.cfg.overlay && p == q.priority then s.setPriority (v.extractLsb' 0 2)
  else s

/-! ## The meanings -/

/-- IORD (R150): `0xFF` for every port, no state change. -/
def execIord (_p : Port) (s : State) : Host.Outcome State Fault Refusal :=
  s.whenLive (s.answer (.byte 0xFF))

/-- IOWR (R139). -/
def execIowr (p : Port) (v : Byte) (s : State) : Host.Outcome State Fault Refusal :=
  s.whenLive ((s.portWrite p v).answer .done)

/-- OUT_MONL_OFF (R140). -/
def execOutMonlOff (s : State) : Host.Outcome State Fault Refusal :=
  s.whenLive ((s.setMonL false).answer .done)

/-- OUT_MONH_OFF (R141). -/
def execOutMonhOff (s : State) : Host.Outcome State Fault Refusal :=
  s.whenLive ((s.setMonH false).answer .done)

/-- OUT_MONL_ON (R142). -/
def execOutMonlOn (s : State) : Host.Outcome State Fault Refusal :=
  s.whenLive ((s.setMonL true).answer .done)

/-- OUT_MONH_ON (R143). -/
def execOutMonhOn (s : State) : Host.Outcome State Fault Refusal :=
  s.whenLive ((s.setMonH true).answer .done)

/-- OUT_MON_ALL (R144). -/
def execOutMonAll (s : State) : Host.Outcome State Fault Refusal :=
  s.whenLive (s.portMonAll.answer .done)

/-- OUT_PCG_OPEN (R145). -/
def execOutPcgOpen (bank : BitVec 2) (s : State) : Host.Outcome State Fault Refusal :=
  s.whenLive ((s.portPcgOpen bank).answer .done)

/-- OUT_PCG_CLOSE (R146): `PCG_EN <- 0`; `STALL` keeps its value. -/
def execOutPcgClose (s : State) : Host.Outcome State Fault Refusal :=
  s.whenLive ((s.setPcgEn false).answer .done)

/-- OUT_BOOT_PAGE (R147). -/
def execOutBootPage (v : Byte) (s : State) : Host.Outcome State Fault Refusal :=
  s.whenLive ((s.setBootPage v).answer .done)

/-- OUT_PRIORITY (R148). -/
def execOutPriority (p : BitVec 2) (s : State) : Host.Outcome State Fault Refusal :=
  s.whenLive ((s.setPriority p).answer .done)

/-- OUT_UNDEF (R149): "no state change, no signal, no error". -/
def execOutUndef (_p : Port) (s : State) : Host.Outcome State Fault Refusal :=
  s.whenLive (s.answer .done)

end Sys2Proof.Machine
end

