-- ==== Sys2Proof/Machine/Renderer.lean ====
section
/-! DEFINITION. The video line-renderer (43_renderer.md): RENDER_LINE, the first pass, and PRESENT, the second. -/

namespace Sys2Proof.Machine

/-! ## First pass (R260 to R269) -/

/-- Bit `i` of a pattern byte, 0 the leftmost pixel (R265, R267). -/
def patBit (lsbLeft : Bool) (pat : Byte) (i : Nat) : Bool :=
  if lsbLeft then pat.getLsbD i else pat.getLsbD (7 - i)

/-- `TextCell(p)`: character code and attribute (R261). -/
def State.textCell (s : State) (p : Nat) : Byte × Byte := (s.peek .vram p, s.peek .vram (0x800 + p))

/-- `TextPattern(off)` (R269). -/
def State.textPattern (s : State) (off : Nat) : Byte :=
  if s.cfg.hasPcgPort then s.peek .pcg (off % s.cfg.pcgSize) else s.peek .cgrom (off % s.cfg.cgSize)

/-- The foreground `attr[6:4]` (R264). -/
def foreground (attr : Byte) : Colour := attr.extractLsb' 4 3
/-- The background `attr[2:0]` (R264). -/
def background (attr : Byte) : Colour := attr.extractLsb' 0 3

/-- The three plane bytes of an overlay cell, (blue, red, green) (R266). -/
structure PlaneBytes where
  blue : Byte
  red : Byte
  green : Byte
deriving DecidableEq, Repr

/-- `OverlayCell(p, sub)`: none where the cell is off (R266). -/
def State.overlayCell (s : State) (p sub : Nat) : Option PlaneBytes :=
  let pcode := s.peek .vram (0x400 + p)
  let pattr := s.peek .vram (0xC00 + p)
  if pattr.getLsbD 3 then
    let off := overlayOffset pcode pattr sub
    some { blue := s.peek .pcg off, red := s.peek .pcg (0x2000 + off), green := s.peek .pcg (0x4000 + off) }
  else none

/-- `OverlayPixel((b, r, g), i) = g' : r' : b'` (R267). -/
def overlayPixel (lsbLeft : Bool) (t : PlaneBytes) (i : Nat) : Colour :=
  BitVec.ofBool (patBit lsbLeft t.green i) ++ BitVec.ofBool (patBit lsbLeft t.red i)
    ++ BitVec.ofBool (patBit lsbLeft t.blue i)

/-- `Combine(bit, fg, bg, pcg)` under a policy (R268). -/
def combine (policy : PrioPolicy) (bit : Bool) (fg bg pcg : Colour) : Colour :=
  match policy with
  | .pcgFront => if pcg ≠ 0 then pcg else if bit then fg else bg
  | .textFgFront => if bit then fg else if pcg ≠ 0 then pcg else bg
  | .pcgOverBg => if bit then fg else pcg

/-- The pixel `i` of cell `c` of line `y` (R260). The colour type masks it to 3 bits (R262). -/
def State.pixel (s : State) (y c i : Nat) : Colour :=
  let p := cellIndex y c
  let sub := y % 8
  let code := (s.textCell p).1
  let attr := (s.textCell p).2
  let bit := patBit s.cfg.pixelLsbLeft (s.textPattern (glyphOffset code attr sub)) i
  let fg := foreground attr
  let bg := background attr
  match (if s.cfg.overlay then s.overlayCell p sub else none) with
  | none => if bit then fg else bg
  | some t => combine (s.cfg.policy s.latch.priority) bit fg bg (overlayPixel s.cfg.pcgLsbLeft t i)

/-- The 320 pixels of line `y` (R260). -/
def State.renderedLine (s : State) (y : Nat) : Line :=
  (List.range cellsPerLine).flatMap (fun c => (List.range 8).map (fun i => s.pixel y c i))

/-- What an unlisted line reads as. -/
def lineFill (_y : Nat) : Line := blankLine

/-- RENDER_LINE(y) (R260): the 320 entries of `FRAME[y]`. -/
def State.drawLine (s : State) (y : Nat) : State :=
  { s with video.frame := Sparse.set lineFill s.video.frame y (s.renderedLine y) }

/-- `FRAME[y][x]` (R33). -/
def State.framePixel (s : State) (y x : Nat) : Colour := (Sparse.get lineFill s.video.frame y).getD x 0
/-- `PREV[y][x]` (R33). -/
def State.prevPixel (s : State) (y x : Nat) : Colour := (Sparse.get lineFill s.video.prev y).getD x 0

/-! ## Second pass (R270 to R274) -/

/-- `Rgb(i)` (R271). -/
def rgbOf (i : Colour) : Rgb :=
  { r := if i.getLsbD 1 then 255 else 0, g := if i.getLsbD 2 then 255 else 0, b := if i.getLsbD 0 then 255 else 0 }

/-- `Blend(cur, prv)`, per channel `(cur >> 1) + (prv >> 1)` (R272). -/
def blendRgb (cur prv : Rgb) : Rgb :=
  { r := (cur.r >>> 1) + (prv.r >>> 1), g := (cur.g >>> 1) + (prv.g >>> 1), b := (cur.b >>> 1) + (prv.b >>> 1) }

/-- The host pixel of an even row for a frame pixel and its predecessor (R270). -/
def presentPixel (c : Config) (cur prv : Colour) : Rgb :=
  if c.blend then blendRgb (rgbOf cur) (rgbOf prv) else rgbOf cur

/-- What an unlisted host row reads as. -/
def rowFill (_Y : Nat) : List Rgb := blankRow

/-- `HOST[Y]` as PRESENT writes it (R270, R273): line `Y/2` with every pixel doubled, an odd row all zero under the
scanline option. -/
def State.presentRow (s : State) (Y : Nat) : List Rgb :=
  if s.cfg.scanline ∧ Y % 2 = 1 then blankRow
  else (List.range frameW).flatMap fun x =>
    List.replicate 2 (presentPixel s.cfg (s.framePixel (Y / 2) x) (s.prevPixel (Y / 2) x))

/-- An entry is listed at the index. -/
def listed {α : Type} (m : Sparse α) (k : Nat) : Bool := m.any (fun p => p.1 == k)

/-- The host rows PRESENT can make other than (0,0,0): those whose line is listed in `FRAME` or in `PREV`, since the
colour index 0 is black and blends to black (R271, R272). -/
def State.litRows (s : State) : List Nat :=
  (List.range hostH).filter (fun Y => listed s.video.frame (Y / 2) || listed s.video.prev (Y / 2))

/-- All 400 rows of `HOST` as PRESENT writes them, in canonical form (R270). -/
def State.presentRows (s : State) : Sparse (List Rgb) :=
  s.litRows.foldr (fun Y m => Sparse.cons rowFill Y (s.presentRow Y) m) []

/-- PRESENT (R270, R274): `HOST` is written whole, then `PREV <- FRAME`. -/
def State.presentFrame (s : State) : State :=
  { s with video := { s.video with host := s.presentRows, prev := s.video.frame } }

/-- `HOST[Y][X]` (R33). -/
def State.hostPixel (s : State) (Y X : Nat) : Rgb := (Sparse.get rowFill s.video.host Y).getD X Rgb.black

/-! ## The meanings -/

/-- RENDER_LINE (R260). -/
def execRenderLine (y : Nat) (s : State) : Host.Outcome State Fault Refusal :=
  s.whenLive ((s.drawLine y).answer .done)

/-- PRESENT (R270). -/
def execPresent (s : State) : Host.Outcome State Fault Refusal :=
  s.whenLive (s.presentFrame.answer .done)

end Sys2Proof.Machine
end

