-- ==== Sys2Proof/Machine/RasterOps.lean ====
section
/-! DEFINITION. The raster-timing counter and its events (41 R170 to R179, R182). -/

namespace Sys2Proof.Machine

/-- EV_NEWLINE (R172): performed after `LINE` and `HCNT` have their new values. -/
def State.newline (s : State) : State :=
  let s := s.drive .vblank (vblankAt s.raster.line)
  let s := s.drive .vsync (vsyncAt s.cfg.timing s.raster.line)
  let s := s.drive .hblank false
  let s := s.drive .hsync false
  let s := { s with raster.blankVram := false }
  let s := if s.cfg.overlay then { s with raster.pcgSafe := false }.releaseStall else s
  if s.raster.line < visibleLines then s.drawLine s.raster.line else s

/-- EV_HBLANK_S (R174). -/
def State.hblankStart (s : State) : State := { s.drive .hblank true with raster.blankVram := true }
/-- EV_HBLANK_E (R175): `BLANK_VRAM` is not changed. -/
def State.hblankEnd (s : State) : State := s.drive .hblank false
/-- EV_HSYNC_S (R176). -/
def State.hsyncStart (s : State) : State := s.drive .hsync true
/-- EV_HSYNC_E (R177). -/
def State.hsyncEnd (s : State) : State := s.drive .hsync false
/-- EV_PCGWIN (R182), `OVERLAY` only: `PCG_SAFE` exists only there (10 R29; log entry 12). -/
def State.pcgWindow (s : State) : State :=
  if s.cfg.overlay then { s with raster.pcgSafe := true }.releaseStall else s

/-- Perform an event when its offset is reached (R171). -/
def State.at (s : State) (hit : Bool) (ev : State → State) : State := if hit then ev s else s

/-- TICK (R171). The comparisons use the new `HCNT`. -/
def State.tick (s : State) : State :=
  let t := s.cfg.timing
  if s.raster.hcnt + 1 = t.cpl then
    { s with raster.hcnt := 0, raster.line := (s.raster.line + 1) % t.lpf }.newline
  else
    let h := s.raster.hcnt + 1
    let s := { s with raster.hcnt := h }
    let s := s.at (h == t.tHbs) State.hblankStart
    let s := s.at (h == t.tHbe) State.hblankEnd
    let s := s.at (h == t.tHss) State.hsyncStart
    let s := s.at (h == t.tHse) State.hsyncEnd
    s.at (s.cfg.overlay && h == t.tPcg) State.pcgWindow

/-! ## The meanings -/

/-- TICK (R171). -/
def execTick (s : State) : Host.Outcome State Fault Refusal := s.whenLive (s.tick.answer .done)
/-- EV_NEWLINE (R172). -/
def execEvNewline (s : State) : Host.Outcome State Fault Refusal := s.whenLive (s.newline.answer .done)
/-- EV_HBLANK_S (R174). -/
def execEvHblankS (s : State) : Host.Outcome State Fault Refusal := s.whenLive (s.hblankStart.answer .done)
/-- EV_HBLANK_E (R175). -/
def execEvHblankE (s : State) : Host.Outcome State Fault Refusal := s.whenLive (s.hblankEnd.answer .done)
/-- EV_HSYNC_S (R176). -/
def execEvHsyncS (s : State) : Host.Outcome State Fault Refusal := s.whenLive (s.hsyncStart.answer .done)
/-- EV_HSYNC_E (R177). -/
def execEvHsyncE (s : State) : Host.Outcome State Fault Refusal := s.whenLive (s.hsyncEnd.answer .done)
/-- EV_PCGWIN (R182). -/
def execEvPcgwin (s : State) : Host.Outcome State Fault Refusal := s.whenLive (s.pcgWindow.answer .done)
/-- TEMPO (R178): `TEMPO <- 1 - TEMPO; emit SIG(TEMPO, TEMPO)`. -/
def execTempo (s : State) : Host.Outcome State Fault Refusal :=
  s.whenLive ((s.drive .tempo (!s.raster.tempo)).answer .done)
/-- BLINK (R179): `BLINK <- 1 - BLINK; emit SIG(BLINK, BLINK)`. -/
def execBlink (s : State) : Host.Outcome State Fault Refusal :=
  s.whenLive ((s.drive .blink (!s.raster.blink)).answer .done)

end Sys2Proof.Machine
end

