-- ==== Sys2Proof/Machine/Dispatch.lean ====
section
/-! DEFINITION. One arm per operation of 30_encoding.md R96. -/

namespace Sys2Proof.Machine

/-- The meaning of an operation in a state. -/
def exec (i : Instr) (s : State) : Host.Outcome State Fault Refusal :=
  match i with
  | .memrd addr => Sys2Proof.Machine.execMemrd addr s
  | .memwr addr v => Sys2Proof.Machine.execMemwr addr v s
  | .memPcgwin acc addr => Sys2Proof.Machine.execMemPcgwin acc addr s
  | .memMmioPio acc k => Sys2Proof.Machine.execMemMmioPio acc k s
  | .memMmioPit acc k => Sys2Proof.Machine.execMemMmioPit acc k s
  | .memMmioAux acc => Sys2Proof.Machine.execMemMmioAux acc s
  | .memPcgwData acc => Sys2Proof.Machine.execMemPcgwData acc s
  | .memPcgwAddr acc => Sys2Proof.Machine.execMemPcgwAddr acc s
  | .memPcgwCtrl acc => Sys2Proof.Machine.execMemPcgwCtrl acc s
  | .memBootflash acc off => Sys2Proof.Machine.execMemBootflash acc off s
  | .memBootrom acc off => Sys2Proof.Machine.execMemBootrom acc off s
  | .memVram acc off => Sys2Proof.Machine.execMemVram acc off s
  | .memWindow acc addr => Sys2Proof.Machine.execMemWindow acc addr s
  | .iord port => Sys2Proof.Machine.execIord port s
  | .iowr port v => Sys2Proof.Machine.execIowr port v s
  | .outMonlOff => Sys2Proof.Machine.execOutMonlOff s
  | .outMonhOff => Sys2Proof.Machine.execOutMonhOff s
  | .outMonlOn => Sys2Proof.Machine.execOutMonlOn s
  | .outMonhOn => Sys2Proof.Machine.execOutMonhOn s
  | .outMonAll => Sys2Proof.Machine.execOutMonAll s
  | .outPcgOpen bank => Sys2Proof.Machine.execOutPcgOpen bank s
  | .outPcgClose => Sys2Proof.Machine.execOutPcgClose s
  | .outBootPage v => Sys2Proof.Machine.execOutBootPage v s
  | .outPriority p => Sys2Proof.Machine.execOutPriority p s
  | .outUndef port => Sys2Proof.Machine.execOutUndef port s
  | .frd fa => Sys2Proof.Machine.execFrd fa s
  | .frdStatus fa => Sys2Proof.Machine.execFrdStatus fa s
  | .frdId fa => Sys2Proof.Machine.execFrdId fa s
  | .frdArray fa => Sys2Proof.Machine.execFrdArray fa s
  | .fwr fa v => Sys2Proof.Machine.execFwr fa v s
  | .fwrBusy fa v => Sys2Proof.Machine.execFwrBusy fa v s
  | .fUnlock1 => Sys2Proof.Machine.execFUnlock1 s
  | .fReset fa => Sys2Proof.Machine.execFReset fa s
  | .fUnlock2 => Sys2Proof.Machine.execFUnlock2 s
  | .fProgramSetup => Sys2Proof.Machine.execFProgramSetup s
  | .fEraseSetup => Sys2Proof.Machine.execFEraseSetup s
  | .fIdEntry => Sys2Proof.Machine.execFIdEntry s
  | .fIdExit => Sys2Proof.Machine.execFIdExit s
  | .fProgramData fa v => Sys2Proof.Machine.execFProgramData fa v s
  | .fEraseUnlock1 => Sys2Proof.Machine.execFEraseUnlock1 s
  | .fEraseUnlock2 => Sys2Proof.Machine.execFEraseUnlock2 s
  | .fChipErase => Sys2Proof.Machine.execFChipErase s
  | .fSectorErase fa => Sys2Proof.Machine.execFSectorErase fa s
  | .fMismatch fa v => Sys2Proof.Machine.execFMismatch fa v s
  | .tick => Sys2Proof.Machine.execTick s
  | .evNewline => Sys2Proof.Machine.execEvNewline s
  | .evHblankS => Sys2Proof.Machine.execEvHblankS s
  | .evHblankE => Sys2Proof.Machine.execEvHblankE s
  | .evHsyncS => Sys2Proof.Machine.execEvHsyncS s
  | .evHsyncE => Sys2Proof.Machine.execEvHsyncE s
  | .evPcgwin => Sys2Proof.Machine.execEvPcgwin s
  | .tempo => Sys2Proof.Machine.execTempo s
  | .blink => Sys2Proof.Machine.execBlink s
  | .renderLine y => Sys2Proof.Machine.execRenderLine y s
  | .present => Sys2Proof.Machine.execPresent s
  | .initCore cfg images => Sys2Proof.Machine.execInitCore cfg images s
  | .reset => Sys2Proof.Machine.execReset s
  | .snapSave => Sys2Proof.Machine.execSnapSave s
  | .snapLoad snap => Sys2Proof.Machine.execSnapLoad snap s
  | .release => Sys2Proof.Machine.execRelease s

end Sys2Proof.Machine
end

