-- ==== Sys2Proof/Machine/Step.lean ====
section
/-! DEFINITION. One step: the next operation the environment presents is decoded in the present state and performed
(00 R15, 20 R72, 30 R96; log entry 4). -/

namespace Sys2Proof.Machine

/-- What the decoder reads of the state. -/
def State.context (s : State) : Context := { cfg := s.cfg, latch := s.latch, flash := s.flash }

/-- Perform a request: the operation it is in this state, or a refusal by name. -/
def perform (r : Request) (s : State) : Host.Outcome State Fault Refusal :=
  match decode s.context r with
  | .ok i => exec i s
  | .error .noSuchCode => .refused .noSuchCode
  | .error .noFlash => .refused .flashAbsent

/-- One step. With nothing presented nothing happens: "The core itself never initiates an action" (00 R15). -/
def step (s : State) : Host.Outcome State Fault Refusal :=
  match s.inbox with
  | [] => .next s
  | r :: rest => perform r { s with inbox := rest }

/-- The state with a table word presented next, in the context in which the word is that row's operation (log entry 5):
which operation a word is depends on the configuration, the latch and the flash cycle state (30 R96), so these are set to the
word's context. -/
def State.withFetchWord (s : State) (nbits w : Nat) : State :=
  match tableRequest nbits w with
  | .error _ => { s with inbox := .malformed nbits w :: s.inbox }
  | .ok r =>
    { s with cfg := (tableContext r).cfg, life := .live, latch := (tableContext r).latch,
             flash := (tableContext r).flash, inbox := r :: s.inbox }

end Sys2Proof.Machine
end

