-- ==== Sys2Proof/Safety.lean ====
section
/-! DEFINITION. What counts as a good state and a run inside the spec, in the words the statements use. -/

namespace Sys2Proof.Machine

/-- A line-granular renderer buffer is canonical: lines rising, inside the buffer, none equal to the blank line, each of
the buffer's width. -/
abbrev PlaneOk {α : Type} (fill : Nat → List α) (height width : Nat) (m : Sparse (List α)) : Prop :=
  Sparse.Wf fill height m ∧ ∀ p ∈ m, p.2.length = width

/-- The invariant of an existing instance: a configuration within 00 R7, every buffer in canonical form inside its size
(40 R122), the latch and the flash scalars in their ranges (10 R21 to R25, R30), the raster invariants of 41 R186, no PCG byte written that
no operation can write (40 R121, R138), and the erased bytes still `0xFF` while an erase keeps the flash busy (42 R230, R231). -/
structure State.Good (s : State) : Prop where
  cfgOk : s.cfg.Ok
  bufferOk : ∀ b, BufferOk s.cfg b (s.mem b)
  latchOk : LatchOk s.cfg s.latch
  rasterOk : RasterOk s.cfg s.raster
  flashOk : FlashRegsOk s.cfg s.flash
  pcgOk : PcgOk s.cfg s.mems.pcg
  storeOk : StoreOk s.cfg s.flash s.mems.fstore
  modifiedOk : s.cfg.hasFlash = false → s.modified = false
  frameOk : PlaneOk lineFill visibleLines frameW s.video.frame
  prevOk : PlaneOk lineFill visibleLines frameW s.video.prev
  hostOk : PlaneOk rowFill hostH hostW s.video.host

/-- The invariant of a run: while the instance exists it is good. Before INITIALIZE and after RELEASE there is no
instance to speak of (60 R336). -/
def State.Inv (s : State) : Prop := s.life = .live → s.Good

/-- The next request keeps the preconditions of 60 R336 on this state, and is one the instance can be asked: the only
cases in which an operation has no meaning are the others. -/
def State.admits (s : State) : Request → Prop
  | .initCore c _ => s.life = .unborn ∧ c.Ok
  | .snapLoad p => s.life = .live ∧ (s.tagsMatch p = true → p.wf = true)
  | .flashRd _ | .flashWr _ _ => s.life = .live ∧ s.cfg.hasFlash = true
  | .malformed _ _ => False
  | .bus _ | .tick | .tempo | .blink | .present | .reset | .snapSave | .release => s.life = .live

end Sys2Proof.Machine
end

