-- ==== Sys2Proof/Certificates/Slice0/Obligations.lean ====
section
/-! DEFINITION. The statements for the provers. The functions of the first part are the spec's tables and formulas written
a second time, as ranges and numbers, so that the statements do not speak in the words of the meanings. -/

open Sys2Proof Sys2Proof.Machine

namespace Sys2Proof.Claims

/-! ## The spec's tables -/

/-- The timing table that `TV` selects, all of it (00 R9). -/
def tvTable (c : Config) : Timing := if c.tv = .pal then c.palTable else c.ntscTable

/-- The PCG windows are open: `OVERLAY and PCG_EN = 1` (40 R125). -/
def overlayOpen (s : State) : Bool := s.cfg.overlay && s.latch.pcgEn

/-- The table of 20 R68: the buffer byte a read of a window shows, none where the dummy answers. The low window over the
flash is the dummy, which 40 R127 never reaches. -/
def mapSource (s : State) (a : Addr) : Option (Buffer × Nat) :=
  let n := a.toNat
  if n < 0x1000 then
    if s.latch.monL then (if s.cfg.hasFlash then none else some (.ipl, n)) else some (.ram, n)
  else if n < 0xD000 then some (.ram, n)
  else if overlayOpen s then
    if n < 0xF000 then
      if s.latch.pcgBank = 0 then some (.cgrom, if n < 0xE000 then n - 0xD000 else n - 0xE000)
      else some (.pcg, (s.latch.pcgBank.toNat - 1) * 0x2000 + (n - 0xD000))
    else none
  else if s.latch.monH then
    if n < 0xE000 then some (.vram, n - 0xD000)
    else if n < 0xE800 then none
    else if s.cfg.extrom then some (.ext, n - 0xE800) else none
  else some (.ram, n)

/-- The buffer byte a write through a window stores to: the ROMs and the dummy drop it (20 R68, R70). -/
def mapSink (s : State) (a : Addr) : Option (Buffer × Nat) :=
  match mapSource s a with
  | some (.ipl, _) | some (.cgrom, _) | some (.ext, _) => none
  | x => x

/-- The byte a window shows (20 R68). -/
def readByte (s : State) (a : Addr) : Byte :=
  match mapSource s a with
  | none => 0xFF
  | some (b, k) => s.peek b k

/-- The address is a peripheral collaborator's (40 R126). -/
def peripheralAddr (c : Config) (a : Addr) : Bool :=
  decide (c.mmio.pioBase.toNat ≤ a.toNat ∧ a.toNat ≤ c.mmio.pioBase.toNat + 3)
    || decide (c.mmio.pitBase.toNat ≤ a.toNat ∧ a.toNat ≤ c.mmio.pitBase.toNat + 3)
    || a == c.mmio.aux

/-- The address is one of the intercepted set (40 R126). -/
def interceptedAddr (c : Config) (a : Addr) : Bool :=
  peripheralAddr c a || (c.hasPcgPort && (a == c.mmio.pcgData || a == c.mmio.pcgAddr || a == c.mmio.pcgCtrl))

/-- The address is none of the four registers from `base` on. -/
def outsideFour (base a : Addr) : Prop := a.toNat < base.toNat ∨ base.toNat + 3 < a.toNat

/-- MEMRD and MEMWR at the address are the operation `op` (30 R96). -/
def AccessesAre (s : State) (a : Addr) (op : Access → Instr) : Prop :=
  exec (.memrd a) s = exec (op .read) s ∧ ∀ v, exec (.memwr a v) s = exec (op (.write v)) s

/-- A memory access at the address is intercepted (40 R126). -/
def takenByIntercept (s : State) (a : Addr) : Bool := s.latch.monH && !overlayOpen s && interceptedAddr s.cfg a

/-- A memory access at the address goes to the flash (40 R127). -/
def takenByFlash (s : State) (a : Addr) : Bool := s.latch.monL && s.cfg.hasFlash && decide (a.toNat < 0x1000)

/-- The address lies in an open PCG window (41 R183). -/
def inOpenPcg (s : State) (a : Addr) : Bool := overlayOpen s && decide (0xD000 ≤ a.toNat ∧ a.toNat ≤ 0xEFFF)

/-- The table of 41 R184. -/
def expectedWait (s : State) (a : Addr) : Nat :=
  if inOpenPcg s a then 0
  else if takenByIntercept s a then 0
  else if takenByFlash s a then 0
  else if s.latch.monL ∧ a.toNat < 0x1000 then 1
  else if s.latch.monH ∧ overlayOpen s = false ∧ 0xD000 ≤ a.toNat ∧ a.toNat ≤ 0xDFFF ∧ s.raster.blankVram = false then
    ((tvTable s.cfg).tHbs - s.raster.hcnt) + s.cfg.vramWaitTail
  else 0

/-- Every byte of every buffer is what it was, but for the target, which holds `v`. -/
def Stores (s t : State) (target : Option (Buffer × Nat)) (v : Byte) : Prop :=
  ∀ b k, t.peek b k = if target = some (b, k) then v else s.peek b k

/-- The record of a level change, none where there is no change. -/
def records (g : Sig) (old new : Bool) : List (Sig × Bool) := if old = new then [] else [(g, new)]

/-- The level a trace leaves a signal at, none where a record repeats the level it finds. -/
def replay (g : Sig) : Bool → List (Sig × Bool) → Option Bool
  | b, [] => some b
  | b, (h, v) :: l => if h = g then (if v = b then none else replay g v l) else replay g b l

/-- Requests performed one after another. -/
def performAll : List Request → State → Host.Outcome State Fault Refusal
  | [], s => .next s
  | r :: rs, s =>
    match perform r s with
    | .next t => performAll rs t
    | .fault f => .fault f
    | .refused q => .refused q

/-- What a write of the table of 42 R233 does to the store. -/
inductive Fill where
  | nothing
  | byte
  | sector
  | chip
deriving DecidableEq, Repr

/-- The table of 42 R233, from the cycle state, the low 15 address bits and the data byte: the next cycle state, the new
`ID_MODE` where it is written, and what happens to the store. -/
def flashRow (c : Config) (k : Cycle) (code : Nat) (v : Byte) : Cycle × Option Bool × Fill :=
  match k with
  | .idle =>
    if code = 0x5555 ∧ v = 0xAA then (.unlock1, none, .nothing)
    else if v = 0xF0 ∧ c.f0Policy = .idleOnly then (.idle, some false, .nothing)
    else (.idle, none, .nothing)
  | .unlock1 => if code = 0x2AAA ∧ v = 0x55 then (.unlock2, none, .nothing) else (.idle, none, .nothing)
  | .unlock2 =>
    if code = 0x5555 then
      if v = 0xA0 then (.programSel, none, .nothing)
      else if v = 0x80 then (.eraseSel, none, .nothing)
      else if v = c.flashCmdIdEntry then (.idle, some true, .nothing)
      else if v = c.flashCmdIdExit then (.idle, some false, .nothing)
      else (.idle, none, .nothing)
    else (.idle, none, .nothing)
  | .programSel => (.idle, none, .byte)
  | .eraseSel => if code = 0x5555 ∧ v = 0xAA then (.eraseUnlock1, none, .nothing) else (.idle, none, .nothing)
  | .eraseUnlock1 => if code = 0x2AAA ∧ v = 0x55 then (.eraseUnlock2, none, .nothing) else (.idle, none, .nothing)
  | .eraseUnlock2 =>
    if code = 0x5555 ∧ v = 0x10 then (.idle, none, .chip)
    else if v = 0x30 then (.idle, none, .sector)
    else (.idle, none, .nothing)

/-- The busy count a write of the table leaves (42 R227, R230, R231), 0 where it stores nothing. -/
def Fill.busy : Fill → Nat
  | .nothing => 0
  | .byte => 4
  | .sector => 5000
  | .chip => 20000

/-- The byte of the store at `k` after a write of the table at `fa`. -/
def Fill.byteAt (f : Fill) (c : Config) (fa : Nat) (v : Byte) (k : Nat) (old : Byte) : Byte :=
  match f with
  | .nothing => old
  | .byte => if k = fa then v else old
  | .sector => if k / 4096 = fa / 4096 then 0xFF else old
  | .chip => if k < c.flashSize then 0xFF else old

/-- Bit `i` of a pattern byte from the left (43 R265, R267). -/
def bitFromLeft (lsbLeft : Bool) (x : Byte) (i : Nat) : Bool := x.getLsbD (if lsbLeft then i else 7 - i)

/-- The pixel `i` of cell `c` of line `y` by the formulas of 43 R260 to R269, in numbers. -/
def expectedPixel (s : State) (y c i : Nat) : Colour :=
  let p := 40 * (y / 8) + c
  let code := s.peek .vram p
  let attr := s.peek .vram (0x800 + p)
  let off := (attr.toNat / 128 * 256 + code.toNat) * 8 + y % 8
  let pat := if s.cfg.hasPcgPort then s.peek .pcg (off % s.cfg.pcgSize) else s.peek .cgrom (off % s.cfg.cgSize)
  let bit := bitFromLeft s.cfg.pixelLsbLeft pat i
  let fg : Colour := BitVec.ofNat 3 (attr.toNat / 16)
  let bg : Colour := BitVec.ofNat 3 attr.toNat
  let pcode := s.peek .vram (0x400 + p)
  let pattr := s.peek .vram (0xC00 + p)
  let poff := (pattr.toNat / 64 * 256 + pcode.toNat) * 8 + y % 8
  let plane := fun base => bitFromLeft s.cfg.pcgLsbLeft (s.peek .pcg (base + poff)) i
  let pcg : Colour := BitVec.ofNat 3 ((plane 0x4000).toNat * 4 + (plane 0x2000).toNat * 2 + (plane 0).toNat)
  if s.cfg.overlay && pattr.getLsbD 3 then
    match s.cfg.policy s.latch.priority with
    | .pcgFront => if pcg ≠ 0 then pcg else if bit then fg else bg
    | .textFgFront => if bit then fg else if pcg ≠ 0 then pcg else bg
    | .pcgOverBg => if bit then fg else pcg
  else if bit then fg else bg

/-- A channel of the host pixel from the frame's bit and the previous frame's (43 R271, R272). -/
def expectedChannel (blend cur prv : Bool) : Byte :=
  if blend then BitVec.ofNat 8 (cur.toNat * 127 + prv.toNat * 127) else BitVec.ofNat 8 (cur.toNat * 255)

/-- The host pixel of an even row (43 R270 to R272): red is bit 1, green bit 2, blue bit 0 of the index. -/
def expectedRgb (blend : Bool) (cur prv : Colour) : Rgb :=
  { r := expectedChannel blend (cur.getLsbD 1) (prv.getLsbD 1)
    g := expectedChannel blend (cur.getLsbD 2) (prv.getLsbD 2)
    b := expectedChannel blend (cur.getLsbD 0) (prv.getLsbD 0) }

/-- A byte of a memory after `LoadImage` over its fill `0xFF` (70 R350, R352). -/
def imageByte (img : Option (List Byte)) (k : Nat) : Byte := (img.getD []).getD k 0xFF

/-- Equal in what a snapshot holds, in the ROMs and in the configuration (44 R302). -/
structure SameToTheBus (s t : State) : Prop where
  cfg : s.cfg = t.cfg
  life : s.life = t.life
  latch : s.latch = t.latch
  raster : s.raster = t.raster
  flash : s.flash = t.flash
  mems : s.mems = t.mems

/-- A request of the CPU collaborator or of the scheduler, or a flash-local one. -/
def ofBusOrScheduler : Request → Prop
  | .bus _ | .flashRd _ | .flashWr _ _ | .tick | .tempo | .blink => True
  | _ => False

end Sys2Proof.Claims

open Sys2Proof.Claims

/-! ## Encoding and decoding -/

/-- 30 R91, R94, R96, R97: an operation that has an encoding is decoded from it wherever its row's condition holds. -/
def Obligations.DecodeInvertsEncode : Prop :=
  ∀ (x : Context) (i : Instr) (r : Request), x.cfg.Ok → i.wf x.cfg = true → rowHolds x i = true →
    encode x.cfg i = some r → decode x r = .ok i

/-- 30 R91: the three fields of a transaction code, and the carriers they select. -/
def Obligations.TransactionCodeFields : Prop :=
  (∀ k a d, tcKind (mkTc k a d) = k ∧ tcAddr (mkTc k a d) = a ∧ tcData (mkTc k a d) = d)
    ∧ (∀ tc, mkTc (tcKind tc) (tcAddr tc) (tcData tc) = tc)
    ∧ ∀ c a d, carrier c (.bus (mkTc 0 a d)) = .ok (.memrd a) ∧ carrier c (.bus (mkTc 1 a d)) = .ok (.memwr a d)
        ∧ carrier c (.bus (mkTc 2 a d)) = .ok (.iord (a.setWidth 8))
        ∧ carrier c (.bus (mkTc 3 a d)) = .ok (.iowr (a.setWidth 8) d)

/-- 30 R91, R93: the data of a read, the upper address half of an IO code, the data of the ports that ignore it, and the
upper six data bits of the two 2-bit ports do not reach the operation. -/
def Obligations.IgnoredBitsDoNotMatter : Prop :=
  ∀ (x : Context) (a a' : Addr) (d d' : Byte),
    decode x (.bus (mkTc 0 a d)) = decode x (.bus (mkTc 0 a d'))
    ∧ (a.setWidth 8 = a'.setWidth 8 → decode x (.bus (mkTc 2 a d)) = decode x (.bus (mkTc 2 a' d'))
        ∧ decode x (.bus (mkTc 3 a d)) = decode x (.bus (mkTc 3 a' d)))
    ∧ (a.setWidth 8 ∉ [x.cfg.ports.pcgOpen, x.cfg.ports.bootPage, x.cfg.ports.priority] →
        decode x (.bus (mkTc 3 a d)) = decode x (.bus (mkTc 3 a d')))
    ∧ (a.setWidth 8 ≠ x.cfg.ports.bootPage → d.toNat % 4 = d'.toNat % 4 →
        decode x (.bus (mkTc 3 a d)) = decode x (.bus (mkTc 3 a d')))

/-- 30 R91, R94 with the words of 95 V1, V2, V3, V5: six codes and what they are. -/
def Obligations.WordsOfTheVectorsDecode : Prop :=
  decode (Context.powerOn Config.plain700) (.bus 0x0D80000#26) = .ok (.memVram .read 0x800)
    ∧ decode (Context.powerOn Config.reference) (.bus 0x10555AA#26) = .ok (.memBootflash (.write 0xAA) 0x555)
    ∧ decode (Context.powerOn Config.board700) (.bus 0x1E01217#26) = .ok (.memPcgwCtrl (.write 0x17))
    ∧ decode (Context.powerOn Config.reference) (.bus 0x200E400#26) = .ok (.iord 0xE4)
    ∧ decode (Context.powerOn Config.reference) (.bus 0x300E5FE#26) = .ok (.outPcgOpen 2)
    ∧ decode (Context.powerOn Config.reference) (.flashWr 0xD555 0xAA) = .ok .fUnlock1

/-- 30 R96: "a decoded operation is what the carrier *is* in that state, not a second step". -/
def Obligations.DecodedOperationIsItsCarrier : Prop :=
  ∀ (s : State) (r : Request) (i j : Instr), decode s.context r = .ok i → carrier s.cfg r = .ok j → exec i s = exec j s

/-! ## The step -/

/-- 00 R15, 20 R72, 30 R96: the next operation presented is decoded in the present state and performed, the rest stays presented;
with nothing presented nothing happens ("The core itself never initiates an action"). -/
def Obligations.StepRunsTheDecodedOperation : Prop :=
  (∀ (s : State) (r : Request) (rest : List Request) (i : Instr), s.inbox = r :: rest → decode s.context r = .ok i →
      step s = exec i { s with inbox := rest })
    ∧ ∀ s : State, s.inbox = [] → step s = .next s

/-- 60 R320, R335, R336: a request is answered exactly when the environment kept the preconditions. The model's own readings enter:
which snapshot bodies and tags count as saved (`Snapshot.wf`, log entry 15; `tagsMatch`, log entry 14), and that a flash-local
request without a flash is refused (log entry 12). -/
def Obligations.RequestAnsweredIffAdmitted : Prop :=
  ∀ (s : State) (r : Request), (∃ t, perform r s = .next t) ↔ s.admits r

/-- 60 R336 (a), (b), (c) and 42 ("The block exists only when BOOT = FLASH"): before INITIALIZE only INITIALIZE has a meaning, after
RELEASE nothing has, INITIALIZE is performed once and with a configuration within 00 R7, and an instance without a flash has no
flash operation. That the last are refused by name is the model's choice (log entry 12). -/
def Obligations.OperationsOutsideTheirInstanceAreRefused : Prop :=
  (∀ (s : State) (i : Instr), s.life = .released → exec i s = .refused .released)
    ∧ (∀ (s : State) (i : Instr), s.life = .unborn → (∀ c im, i ≠ .initCore c im) → exec i s = .refused .notInitialized)
    ∧ (∀ (s : State) c im, s.life = .live → exec (.initCore c im) s = .refused .alreadyInitialized)
    ∧ (∀ (s : State) c im, s.life = .unborn → ¬ c.Ok → exec (.initCore c im) s = .refused .badConfiguration)
    ∧ ∀ (s : State) (i : Instr), s.life = .live → s.cfg.hasFlash = false →
        ((∃ fa, i = .frd fa ∨ i = .frdStatus fa ∨ i = .frdId fa ∨ i = .frdArray fa ∨ i = .fReset fa ∨ i = .fSectorErase fa
            ∨ ∃ v, i = .fwr fa v ∨ i = .fwrBusy fa v ∨ i = .fProgramData fa v ∨ i = .fMismatch fa v)
          ∨ (∃ acc off, i = .memBootflash acc off)
          ∨ i ∈ [.fUnlock1, .fUnlock2, .fProgramSetup, .fEraseSetup, .fIdEntry, .fIdExit, .fEraseUnlock1, .fEraseUnlock2,
              .fChipErase]) →
        exec i s = .refused .flashAbsent

/-! ## Invariants -/

/-- 10 R21 to R31, 40 R122, R138, R147, 41 R186, 42 R234: the invariant is kept by every step. So what SNAP_SAVE produces is within
`Snapshot.wf` (log entry 15). -/
def Obligations.EveryStepKeepsTheInvariant : Prop :=
  ∀ s t : State, s.Inv → step s = .next t → t.Inv

/-- 10 R35, 70 R350, 41 R186: the state after reset is that of an existing instance and meets the invariant. Its configuration is the
model's choice (log entry 2). -/
def Obligations.ResetStateIsGood : Prop := State.reset.life = .live ∧ State.reset.Inv ∧ State.reset.Good

/-- 00 R3, R16, 10 R31, 20 R70: while the instance lives no step changes the configuration or writes the boot ROM, the character ROM
or the extension ROM. -/
def Obligations.ConfigurationAndRomsAreFixed : Prop :=
  ∀ s t : State, s.life = .live → step s = .next t →
    t.cfg = s.cfg ∧ t.mems.ipl = s.mems.ipl ∧ t.mems.cgrom = s.mems.cgrom ∧ t.mems.ext = s.mems.ext

/-- 10 R21, R22, R23, R25: `MODE`, `PCG_BANK`, `BOOT_PAGE`, `PRIORITY` are written by IOWR alone, but for RESET and SNAP_LOAD. -/
def Obligations.ModeIsWrittenByPortsOnly : Prop :=
  ∀ (s t : State) (r : Request), perform r s = .next t → (∀ tc, r = .bus tc → tcKind tc ≠ 3) → r ≠ .reset →
    (∀ p, r ≠ .snapLoad p) → (∀ c im, r ≠ .initCore c im) →
    t.latch.mode = s.latch.mode ∧ t.latch.pcgBank = s.latch.pcgBank ∧ t.latch.bootPage = s.latch.bootPage
      ∧ t.latch.priority = s.latch.priority

/-- 41 R185, R186: nothing but TICK, RESET and SNAP_LOAD moves the counters or writes a raster flag; `TEMPO` and `BLINK` move
by their own operations, `STALL` also by memory accesses. -/
def Obligations.RasterIsMovedByTicksOnly : Prop :=
  ∀ (s t : State) (r : Request), perform r s = .next t → r ≠ .tick → r ≠ .reset → (∀ p, r ≠ .snapLoad p) →
    (∀ c im, r ≠ .initCore c im) →
    t.raster = { s.raster with stall := t.raster.stall, tempo := t.raster.tempo, blink := t.raster.blink }
      ∧ (r ≠ .tempo → t.raster.tempo = s.raster.tempo) ∧ (r ≠ .blink → t.raster.blink = s.raster.blink)

/-- 42 R210: the flash is touched only through the low window with `MON_L = 1`, the flash-local operations, RESET, SNAP_LOAD
and INITIALIZE. -/
def Obligations.FlashIsTouchedByItsOwnersOnly : Prop :=
  ∀ (s t : State) (r : Request), perform r s = .next t →
    (∀ tc, r = .bus tc → (tcKind tc).toNat ≤ 1 → ¬ (s.latch.monL = true ∧ (tcAddr tc).toNat < 0x1000)) →
    (∀ fa, r ≠ .flashRd fa) → (∀ fa v, r ≠ .flashWr fa v) → r ≠ .reset → (∀ p, r ≠ .snapLoad p) →
    (∀ c im, r ≠ .initCore c im) →
    t.flash = s.flash ∧ t.modified = s.modified ∧ t.mems.fstore = s.mems.fstore

/-- 00 R13, 60 R323: what a step appends to the trace is each signal's level changes, each record once, ending at the flag. A
load re-emits `BUSREQ` only (44 R302) and is left out. -/
def Obligations.TraceHoldsTheLevelChanges : Prop :=
  ∀ s t : State, s.life = .live → s.Good → step s = .next t → (∀ p rest, s.inbox ≠ .snapLoad p :: rest) →
    ∃ evs, t.trace = s.trace ++ evs ∧ ∀ g, replay g (sigLevel s.raster g) evs = some (sigLevel t.raster g)

/-! ## The Bank Map and the memory accesses -/

/-- 20 R61: window index and offset of an address. -/
def Obligations.AddressSplitsIntoWindowAndOffset : Prop :=
  ∀ a : Addr, windowIndex a = (a >>> 11).toNat ∧ windowOffset a = (a &&& 0x7FF).toNat
    ∧ windowIndex a < 32 ∧ windowOffset a < 0x800 ∧ a.toNat = windowIndex a * 0x800 + windowOffset a

/-- 40 R122: no window reaches outside its buffers. -/
def Obligations.WindowsStayInsideTheirBuffers : Prop :=
  ∀ (c : Config) (l : Latch) (w : Nat), c.Ok → w < 32 →
    (∀ b, (derive c l w).rsrc.buffer = some b → (derive c l w).roff + 0x7FF < bufferSize c b)
      ∧ (∀ b, (derive c l w).wsink.buffer = some b → (derive c l w).woff + 0x7FF < bufferSize c b)

/-- 20 R68, R69, R70, 40 R121, R128, R129: a window read shows the byte of the table and changes nothing; a window write stores its
byte at the mapped place, or nowhere where a ROM or the dummy is mapped, and changes no other byte and no register. -/
def Obligations.WindowAccessFollowsTheMap : Prop :=
  ∀ (s : State) (a : Addr) (v : Byte), s.life = .live →
    exec (.memWindow .read a) s = .next { s with result := .memRead (readByte s a) 0 }
      ∧ (mapSink s a = none → exec (.memWindow (.write v) a) s = .next { s with result := .memWrite 0 })
      ∧ (s.Good → ∃ t, exec (.memWindow (.write v) a) s = .next t ∧ t = { s with mems := t.mems, result := .memWrite 0 }
          ∧ Stores s t (mapSink s a) v)

/-- 40 R130, 41 R183, R184: MEMRD where neither the intercepts nor the flash take the access: the mapped byte, the wait of the
table, and the PCG stall as the only change. -/
def Obligations.MemrdReturnsTheMappedByte : Prop :=
  ∀ (s : State) (a : Addr), s.life = .live → s.cfg.Ok → takenByIntercept s a = false → takenByFlash s a = false →
    exec (.memrd a) s = .next
      { s with
        raster := { s.raster with stall := s.raster.stall || (inOpenPcg s a && !s.raster.pcgSafe) }
        trace := s.trace
          ++ records .busreq s.raster.stall (s.raster.stall || (inOpenPcg s a && !s.raster.pcgSafe))
        result := .memRead (readByte s a) (expectedWait s a) }

/-- 40 R131, 41 R183, R184: MEMWR where neither the intercepts nor the flash take the access. -/
def Obligations.MemwrStoresThroughTheMap : Prop :=
  ∀ (s : State) (a : Addr) (v : Byte), s.life = .live → s.Good → takenByIntercept s a = false → takenByFlash s a = false →
    ∃ t, exec (.memwr a v) s = .next t ∧ Stores s t (mapSink s a) v
      ∧ t = { s with
              mems := t.mems
              raster := { s.raster with stall := s.raster.stall || (inOpenPcg s a && !s.raster.pcgSafe) }
              trace := s.trace
                ++ records .busreq s.raster.stall (s.raster.stall || (inOpenPcg s a && !s.raster.pcgSafe))
              result := .memWrite (expectedWait s a) }

/-- 41 R184: the wait count of every MEMRD and MEMWR. -/
def Obligations.WaitCountsFollowTheTable : Prop :=
  ∀ (s : State) (a : Addr) (v : Byte), s.life = .live → s.cfg.Ok →
    (∃ t b, exec (.memrd a) s = .next t ∧ t.result = .memRead b (expectedWait s a))
      ∧ ∃ t, exec (.memwr a v) s = .next t ∧ t.result = .memWrite (expectedWait s a)

/-- 20 R66: a byte written through a read/write window is read back. -/
def Obligations.WrittenByteIsReadBack : Prop :=
  ∀ (s : State) (a : Addr) (v : Byte), s.life = .live → s.Good → takenByIntercept s a = false →
    (mapSink s a).isSome = true →
    ∃ t u n, exec (.memwr a v) s = .next t ∧ exec (.memrd a) t = .next u ∧ u.result = .memRead v n

/-- 20 R65: the reads that are none of the three exceptions change nothing, so the same read again answers the same. -/
def Obligations.OtherReadsHaveNoSideEffect : Prop :=
  ∀ (s : State) (a : Addr), s.life = .live → s.cfg.Ok →
    ¬ (takenByFlash s a = true ∧ 0 < s.flash.busy) →
    ¬ (takenByIntercept s a = true ∧ peripheralAddr s.cfg a = true) →
    ¬ (inOpenPcg s a = true ∧ s.raster.pcgSafe = false ∧ s.raster.stall = false) →
    ∃ b n, exec (.memrd a) s = .next { s with result := .memRead b n }
      ∧ exec (.memrd a) { s with result := .memRead b n } = .next { s with result := .memRead b n }

/-- 41 R183, 60 R326: an access to an open PCG window raises the stall unless the raster is in the safe window or the stall is up,
and completes at once with wait 0. -/
def Obligations.PcgWindowAccessMayStall : Prop :=
  ∀ (s : State) (a : Addr) (v : Byte), s.life = .live → s.Good → s.cfg.overlay = true → s.latch.pcgEn = true →
    0xD000 ≤ a.toNat → a.toNat ≤ 0xEFFF →
    let r := { s.raster with stall := s.raster.stall || !s.raster.pcgSafe }
    let tr := s.trace ++ (if s.raster.pcgSafe = false ∧ s.raster.stall = false then [(.busreq, true)] else [])
    exec (.memPcgwin .read a) s = .next { s with raster := r, trace := tr, result := .memRead (readByte s a) 0 }
      ∧ ∃ t, exec (.memPcgwin (.write v) a) s = .next t ∧ Stores s t (mapSink s a) v
          ∧ t = { s with mems := t.mems, raster := r, trace := tr, result := .memWrite 0 }

/-- 41 R181: a VRAM access completes at once; before blank-start it returns the remaining clocks and the tail. -/
def Obligations.VramAccessCostsTheVramWait : Prop :=
  ∀ (s : State) (off : BitVec 12) (v : Byte), s.life = .live → s.Good → s.latch.monH = true → overlayOpen s = false →
    let w := if s.raster.hcnt < (tvTable s.cfg).tHbs then ((tvTable s.cfg).tHbs - s.raster.hcnt) + s.cfg.vramWaitTail else 0
    exec (.memVram .read off) s = .next { s with result := .memRead (s.peek .vram off.toNat) w }
      ∧ ∃ t, exec (.memVram (.write v) off) s = .next t ∧ Stores s t (some (.vram, off.toNat)) v
          ∧ t = { s with mems := t.mems, result := .memWrite w }

/-- 41 R180: the boot ROM costs 1 per access, reads the ROM and drops writes. -/
def Obligations.BootRomAccessCostsOne : Prop :=
  ∀ (s : State) (off : BitVec 12) (v : Byte), s.life = .live → s.latch.monL = true → s.cfg.hasFlash = false →
    exec (.memBootrom .read off) s = .next { s with result := .memRead (s.peek .ipl off.toNat) 1 }
      ∧ exec (.memBootrom (.write v) off) s = .next { s with result := .memWrite 1 }

/-- 40 R127: the low window over the flash is FRD and FWR at `BOOT_PAGE : a[11:0]`, wait 0. -/
def Obligations.BootFlashAccessIsTheFlashOperation : Prop :=
  ∀ (s : State) (off : BitVec 12) (v : Byte), s.life = .live → s.cfg.hasFlash = true →
    let fa := s.latch.bootPage * 0x1000 + off.toNat
    (∃ t b, exec (.frd fa) s = .next t ∧ t.result = .byte b
        ∧ exec (.memBootflash .read off) s = .next { t with result := .memRead b 0 })
      ∧ ∃ t, exec (.fwr fa v) s = .next t ∧ exec (.memBootflash (.write v) off) s = .next { t with result := .memWrite 0 }

/-! ## Memory-mapped I/O -/

/-- 40 R132, R133: a peripheral register is the collaborator's: a read calls it and returns what it answers, a write hands the byte
over, and the core is unchanged. The byte read is free: nothing is said of it. -/
def Obligations.PeripheralAccessesAreForwarded : Prop :=
  ∀ (s : State) (k : BitVec 2) (v : Byte), s.life = .live →
    (∃ b, exec (.memMmioPio .read k) s
        = .next { s with periph := s.periph ++ [.read .pio k.toNat], draws := s.draws + 1, result := .memRead b 0 })
      ∧ (∃ b, exec (.memMmioPit .read k) s
        = .next { s with periph := s.periph ++ [.read .pit k.toNat], draws := s.draws + 1, result := .memRead b 0 })
      ∧ (∃ b, exec (.memMmioAux .read) s
        = .next { s with periph := s.periph ++ [.read .aux 0], draws := s.draws + 1, result := .memRead b 0 })
      ∧ exec (.memMmioPio (.write v) k) s
        = .next { s with periph := s.periph ++ [.write .pio k.toNat v], result := .memWrite 0 }
      ∧ exec (.memMmioPit (.write v) k) s
        = .next { s with periph := s.periph ++ [.write .pit k.toNat v], result := .memWrite 0 }
      ∧ exec (.memMmioAux (.write v)) s = .next { s with periph := s.periph ++ [.write .aux 0 v], result := .memWrite 0 }

/-- 40 R126, R130, R131, R134, 30 R96: with `MON_H` = 1 and the overlay closed, a memory access at an address of the intercepted set is
the access to that register: four of the parallel I/O, four of the timer, the auxiliary one, and on an instance with the PCG write
port its three. Where a configuration puts two on one address the earlier one decides (log entry 19). -/
def Obligations.InterceptedAccessesReachTheirRegisters : Prop :=
  ∀ s : State, s.life = .live → s.cfg.Ok → s.latch.monH = true → overlayOpen s = false →
    let m := s.cfg.mmio
    let free : Addr → Prop := fun a => outsideFour m.pioBase a ∧ outsideFour m.pitBase a
    (∀ k < 4, AccessesAre s (m.pioBase + BitVec.ofNat 16 k) fun acc => .memMmioPio acc (BitVec.ofNat 2 k))
      ∧ (∀ k < 4, outsideFour m.pioBase (m.pitBase + BitVec.ofNat 16 k) →
          AccessesAre s (m.pitBase + BitVec.ofNat 16 k) fun acc => .memMmioPit acc (BitVec.ofNat 2 k))
      ∧ (free m.aux → AccessesAre s m.aux .memMmioAux)
      ∧ (s.cfg.hasPcgPort = true →
          (free m.pcgData → m.pcgData ≠ m.aux → AccessesAre s m.pcgData .memPcgwData)
            ∧ (free m.pcgAddr → m.pcgAddr ≠ m.aux → AccessesAre s m.pcgAddr .memPcgwAddr)
            ∧ (free m.pcgCtrl → m.pcgCtrl ≠ m.aux → AccessesAre s m.pcgCtrl .memPcgwCtrl))

/-- 40 R136, R137: the data and the address latch of the PCG write port. -/
def Obligations.PcgPortLatchesLoad : Prop :=
  ∀ (s : State) (v : Byte), s.life = .live → s.cfg.hasPcgPort = true →
    exec (.memPcgwData (.write v)) s = .next { s with latch := { s.latch with pcgData := v }, result := .memWrite 0 }
      ∧ exec (.memPcgwAddr (.write v)) s = .next { s with latch := { s.latch with pcgAddr := v }, result := .memWrite 0 }

/-- 40 R135, R138: a control byte is latched, and on the rising edge of bit 4 one pattern cell byte is written, in `0x400`-`0x7FF` or
`0xC00`-`0xFFF`; the three registers are write-only. -/
def Obligations.PcgControlWritesOnTheRisingEdge : Prop :=
  ∀ (s : State) (d : Byte), s.life = .live → s.Good → s.cfg.hasPcgPort = true →
    let off := (if d.getLsbD 2 then 0xC00 else 0x400) + 256 * (d.toNat % 4) + s.latch.pcgAddr.toNat
    let edge := s.latch.pcgCtrl.getLsbD 4 = false ∧ d.getLsbD 4 = true
    (0x400 ≤ off ∧ off < 0x800 ∨ 0xC00 ≤ off ∧ off < 0x1000)
      ∧ (∃ t, exec (.memPcgwCtrl (.write d)) s = .next t
          ∧ t = { s with mems := t.mems, latch := { s.latch with pcgCtrl := d }, result := .memWrite 0 }
          ∧ (edge → Stores s t (some (.pcg, off)) (if d.getLsbD 5 then s.peek .cgrom (off % s.cfg.cgSize) else s.latch.pcgData))
          ∧ (¬ edge → t.mems = s.mems))
      ∧ exec (.memPcgwData .read) s = .next { s with result := .memRead 0xFF 0 }
      ∧ exec (.memPcgwAddr .read) s = .next { s with result := .memRead 0xFF 0 }
      ∧ exec (.memPcgwCtrl .read) s = .next { s with result := .memRead 0xFF 0 }

/-! ## The ports -/

/-- 40 R140 to R143: the four single-bit ports, with what each makes the windows show. -/
def Obligations.MonPortsSetOneBit : Prop :=
  ∀ s : State, s.life = .live →
    (∃ t, exec .outMonlOff s = .next t ∧ t = { s with latch := { s.latch with mode := t.latch.mode }, result := .done }
        ∧ t.latch.monL = false ∧ t.latch.monH = s.latch.monH ∧ t.latch.pcgEn = s.latch.pcgEn
        ∧ ∀ a : Addr, inBoot t.latch a = false
            ∧ (a.toNat < 0x1000 → t.winRead a = t.peek .ram a.toNat ∧ t.winTarget a = some (.ram, a.toNat)))
      ∧ (∃ t, exec .outMonhOff s = .next t ∧ t = { s with latch := { s.latch with mode := t.latch.mode }, result := .done }
        ∧ t.latch.monH = false ∧ t.latch.monL = s.latch.monL ∧ t.latch.pcgEn = s.latch.pcgEn
        ∧ (overlayOpen s = false → ∀ a : Addr, intercepted t.cfg t.latch a = none ∧ inVram t.cfg t.latch a = false
            ∧ (0xD000 ≤ a.toNat → t.winRead a = t.peek .ram a.toNat ∧ t.winTarget a = some (.ram, a.toNat)))
        ∧ (overlayOpen s = true → ∀ a : Addr, t.winRead a = s.winRead a ∧ t.winTarget a = s.winTarget a))
      ∧ (∃ t, exec .outMonlOn s = .next t ∧ t = { s with latch := { s.latch with mode := t.latch.mode }, result := .done }
        ∧ t.latch.monL = true ∧ t.latch.monH = s.latch.monH ∧ t.latch.pcgEn = s.latch.pcgEn
        ∧ ∀ a : Addr, a.toNat < 0x1000 → inBoot t.latch a = true
            ∧ (s.cfg.hasFlash = false → t.winRead a = t.peek .ipl a.toNat ∧ t.winTarget a = none)
            ∧ (s.cfg.Ok → s.cfg.hasFlash = true → exec (.memrd a) t = exec (.memBootflash .read (a.setWidth 12)) t
                ∧ ∀ v, exec (.memwr a v) t = exec (.memBootflash (.write v) (a.setWidth 12)) t))
      ∧ ∃ t, exec .outMonhOn s = .next t ∧ t = { s with latch := { s.latch with mode := t.latch.mode }, result := .done }
        ∧ t.latch.monH = true ∧ t.latch.monL = s.latch.monL ∧ t.latch.pcgEn = s.latch.pcgEn
        ∧ (overlayOpen s = false → ∀ a : Addr, intercepted t.cfg t.latch a = mmioClass t.cfg a
            ∧ (0xD000 ≤ a.toNat → a.toNat ≤ 0xDFFF → t.winRead a = t.peek .vram (a.toNat - 0xD000)
                ∧ t.winTarget a = some (.vram, a.toNat - 0xD000))
            ∧ (0xE000 ≤ a.toNat → a.toNat ≤ 0xE7FF → t.winRead a = 0xFF)
            ∧ (0xE800 ≤ a.toNat → t.winRead a = if s.cfg.extrom then t.peek .ext (a.toNat - 0xE800) else 0xFF))

/-- 40 R144 to R148: OUT_MON_ALL gives `MODE = 0b011` from any latch state of the instance and keeps the rest; opening the overlay sets
`PCG_EN` and the bank; closing clears `PCG_EN` and keeps bank and stall; the boot-page port takes the data modulo the page count, the
priority port its two bits. -/
def Obligations.OtherPortsWriteTheirFields : Prop :=
  (∀ s : State, s.life = .live → LatchOk s.cfg s.latch →
      exec .outMonAll s = .next { s with latch := { s.latch with mode := 0b011 }, result := .done })
    ∧ (∀ (s : State) (k : BitVec 2), s.life = .live → s.cfg.overlay = true →
      (∃ t, exec (.outPcgOpen k) s = .next t
          ∧ t = { s with latch := { s.latch with mode := t.latch.mode, pcgBank := k }, result := .done }
          ∧ t.latch.pcgEn = true ∧ t.latch.monL = s.latch.monL ∧ t.latch.monH = s.latch.monH)
        ∧ (∃ t, exec .outPcgClose s = .next t
          ∧ t = { s with latch := { s.latch with mode := t.latch.mode }, result := .done }
          ∧ t.latch.pcgEn = false ∧ t.latch.monL = s.latch.monL ∧ t.latch.monH = s.latch.monH)
        ∧ exec (.outPriority k) s = .next { s with latch := { s.latch with priority := k }, result := .done })
    ∧ ∀ (s : State) (v : Byte), s.life = .live → s.cfg.hasFlash = true →
      exec (.outBootPage v) s
        = .next { s with latch := { s.latch with bootPage := v.toNat % (s.cfg.flashSize / 4096) }, result := .done }

/-- 40 R139, R149, R150: IOWR writes nothing but the latch, and to a port the instance does not define it writes nothing; every port
reads as `0xFF` and a port read changes nothing. -/
def Obligations.PortAccessesTouchTheLatchOnly : Prop :=
  ∀ (s : State) (p : Port) (v : Byte), s.life = .live →
    (∃ t, exec (.iowr p v) s = .next t ∧ t = { s with latch := t.latch, result := .done })
      ∧ (p ∉ s.cfg.definedPorts → exec (.iowr p v) s = .next { s with result := .done })
      ∧ exec (.outUndef p) s = .next { s with result := .done }
      ∧ exec (.iord p) s = .next { s with result := .byte 0xFF }

/-- 10 R22 to R25, R29: the registers an instance lacks stay at their hard-wired value: the operations that would write them
change nothing. That the bare operation is defined at all on such an instance is the model's choice (log entries 9, 12). -/
def Obligations.AbsentRegistersAreHardWired : Prop :=
  ∀ (s : State) (v : Byte) (k : BitVec 2), s.life = .live →
    (s.cfg.overlay = false → exec (.outPcgOpen k) s = .next { s with result := .done }
        ∧ exec .outPcgClose s = .next { s with result := .done }
        ∧ exec (.outPriority k) s = .next { s with result := .done }
        ∧ exec .evPcgwin s = .next { s with result := .done })
      ∧ (s.cfg.hasFlash = false → exec (.outBootPage v) s = .next { s with result := .done })
      ∧ (s.cfg.hasPcgPort = false → exec (.memPcgwData (.write v)) s = .next { s with result := .memWrite 0 }
        ∧ exec (.memPcgwAddr (.write v)) s = .next { s with result := .memWrite 0 }
        ∧ exec (.memPcgwCtrl (.write v)) s = .next { s with result := .memWrite 0 })

/-! ## The flash -/

/-- 42 R213: a status read counts down and returns the stored byte with bit 7 inverted and bit 6 the new counter's parity. -/
def Obligations.StatusReadTogglesAndCountsDown : Prop :=
  ∀ (s : State) (fa : Nat), s.life = .live → s.cfg.hasFlash = true → 0 < s.flash.busy →
    ∃ b : Byte, exec (.frdStatus fa) s
        = .next { s with flash := { s.flash with busy := s.flash.busy - 1 }, result := .byte b }
      ∧ b.getLsbD 7 = !(s.peek .fstore fa).getLsbD 7 ∧ b.getLsbD 6 = decide ((s.flash.busy - 1) % 2 = 1)
      ∧ ∀ i < 6, b.getLsbD i = (s.peek .fstore fa).getLsbD i

/-- 42 R215: an array read returns the stored byte and writes no state. -/
def Obligations.ArrayReadReturnsTheStoredByte : Prop :=
  ∀ (s : State) (fa : Nat), s.life = .live → s.cfg.hasFlash = true →
    exec (.frdArray fa) s = .next { s with result := .byte (s.peek .fstore fa) }

/-- 42 R212, R214: FRD is the status read while busy, else the identification bytes at 0 and 1 in that mode, else the array; it changes
`BUSY` and nothing else of the flash. -/
def Obligations.FlashReadDispatch : Prop :=
  ∀ (s : State) (fa : Nat), s.life = .live → s.cfg.hasFlash = true →
    (∃ t, exec (.frd fa) s = .next t
        ∧ t = { s with flash := { s.flash with busy := s.flash.busy - 1 }, result := t.result })
      ∧ (0 < s.flash.busy → exec (.frd fa) s = exec (.frdStatus fa) s)
      ∧ (s.flash.busy = 0 → s.flash.idMode = true → fa ≤ 1 → exec (.frd fa) s = exec (.frdId fa) s)
      ∧ (s.flash.busy = 0 → (s.flash.idMode = false ∨ 1 < fa) → exec (.frd fa) s = exec (.frdArray fa) s)
      ∧ exec (.frdId 0) s = .next { s with result := .byte s.cfg.flashMfrId }
      ∧ exec (.frdId 1) s = .next { s with result := .byte s.cfg.flashDevId }

/-- 42 R216, R233: the complete transition table of FWR, with what each row does to the store, `BUSY`, `ID_MODE` and `MODIFIED`. -/
def Obligations.FlashWriteFollowsTheTable : Prop :=
  ∀ (s : State) (fa : Nat) (v : Byte), s.life = .live → s.Good → s.cfg.hasFlash = true → s.flash.busy = 0 →
    let row := flashRow s.cfg s.flash.cycle (fa % 0x8000) v
    ∃ t, exec (.fwr fa v) s = .next t
      ∧ t.flash = { cycle := row.1, busy := row.2.2.busy, idMode := row.2.1.getD s.flash.idMode }
      ∧ t.modified = (s.modified || decide (row.2.2 ≠ .nothing))
      ∧ (∀ b k, t.peek b k = if b = .fstore then row.2.2.byteAt s.cfg fa v k (s.peek b k) else s.peek b k)
      ∧ t = { s with mems := t.mems, flash := t.flash, modified := t.modified, result := .done }

/-- 42 R217: a write while busy changes nothing. -/
def Obligations.BusyWritesAreIgnored : Prop :=
  ∀ (s : State) (fa : Nat) (v : Byte), s.life = .live → s.cfg.hasFlash = true →
    exec (.fwrBusy fa v) s = .next { s with result := .done }
      ∧ (0 < s.flash.busy → exec (.fwr fa v) s = .next { s with result := .done })

/-- 42 R216, R218, R219, R221, R223, R224, R228, R229: each step of a command sequence moves `CYCLE` and changes nothing else. That 15
address bits are compared is the spec's decision D12 (R218); that the bare operation has its effect in every cycle state is the
model's choice (log entry 9). -/
def Obligations.UnlockStepsMoveTheCycle : Prop :=
  ∀ (s : State) (fa : Nat) (v : Byte), s.life = .live → s.cfg.Ok → s.cfg.hasFlash = true →
    let moved : Cycle → State := fun k => { s with flash := { s.flash with cycle := k }, result := .done }
    let rule : Instr → Cycle → Nat → Cycle → Prop := fun i k fc k' =>
      exec i s = .next (moved k')
        ∧ (s.flash.busy = 0 → s.flash.cycle = k → (fa % 0x8000) * 256 + v.toNat = fc → exec (.fwr fa v) s = .next (moved k'))
    rule .fUnlock1 .idle 0x5555AA .unlock1 ∧ rule .fUnlock2 .unlock1 0x2AAA55 .unlock2
      ∧ rule .fProgramSetup .unlock2 0x5555A0 .programSel ∧ rule .fEraseSetup .unlock2 0x555580 .eraseSel
      ∧ rule .fEraseUnlock1 .eraseSel 0x5555AA .eraseUnlock1 ∧ rule .fEraseUnlock2 .eraseUnlock1 0x2AAA55 .eraseUnlock2

/-- 42 R220, R225, R226, R232: entering and leaving identification, and a mismatch, write `ID_MODE` or `CYCLE` only. That the bare
operation has its effect outside its row's condition (F_RESET under `FLASH_F0_POLICY = NONE`, where R220 does not exist) is the
model's choice (log entry 9): no write decodes to it there. -/
def Obligations.IdentificationAndMismatchWrites : Prop :=
  ∀ (s : State) (fa : Nat) (v : Byte), s.life = .live → s.cfg.hasFlash = true →
    exec .fIdEntry s = .next { s with flash := { s.flash with idMode := true, cycle := .idle }, result := .done }
      ∧ exec .fIdExit s = .next { s with flash := { s.flash with idMode := false, cycle := .idle }, result := .done }
      ∧ exec (.fReset fa) s = .next { s with flash := { s.flash with idMode := false }, result := .done }
      ∧ exec (.fMismatch fa v) s = .next { s with flash := { s.flash with cycle := .idle }, result := .done }

/-- 42 R227, R230, R231: the three commands that store: which bytes, the busy count, `MODIFIED`, `CYCLE`; `ID_MODE` is kept. -/
def Obligations.StoringCommands : Prop :=
  ∀ (s : State) (fa : Nat) (v : Byte), s.life = .live → s.Good → s.cfg.hasFlash = true → fa < s.cfg.flashSize →
    let done : State → Nat → State := fun t n =>
      { s with mems := t.mems, flash := { s.flash with cycle := .idle, busy := n }, modified := true, result := .done }
    (∃ t, exec (.fProgramData fa v) s = .next t ∧ t = done t 4 ∧ Stores s t (some (.fstore, fa)) v)
      ∧ (∃ t, exec .fChipErase s = .next t ∧ t = done t 20000
          ∧ ∀ b k, t.peek b k = if b = .fstore ∧ k < s.cfg.flashSize then 0xFF else s.peek b k)
      ∧ ∃ t, exec (.fSectorErase fa) s = .next t ∧ t = done t 5000
          ∧ ∀ b k, t.peek b k = if b = .fstore ∧ k / 4096 = fa / 4096 then 0xFF else s.peek b k

/-- 42 R234 (c): as many reads as the busy count, at any addresses, end the busy state and change nothing else. -/
def Obligations.BusyEndsAfterThatManyReads : Prop :=
  ∀ (fas : List Nat) (s : State), s.life = .live → s.cfg.hasFlash = true → fas.length = s.flash.busy →
    ∃ t, performAll (fas.map .flashRd) s = .next t
      ∧ t = { s with flash := { s.flash with busy := 0 }, result := t.result }

/-- 42 R227 and 95 X4: the byte-program sequence stores the byte; the first read after it is not the byte, and the read after four
reads is, unless it is an identification read. -/
def Obligations.ProgramSequenceStoresTheByte : Prop :=
  ∀ (s : State) (fa : Nat) (v : Byte), s.life = .live → s.Good → s.cfg.hasFlash = true → s.flash.cycle = .idle →
    s.flash.busy = 0 → (s.flash.idMode = false ∨ 1 < fa) → fa < s.cfg.flashSize →
    ∃ t u, performAll [.flashWr 0x5555 0xAA, .flashWr 0x2AAA 0x55, .flashWr 0x5555 0xA0, .flashWr fa v] s = .next t
      ∧ t.flash.busy = 4 ∧ Stores s t (some (.fstore, fa)) v
      ∧ (∃ w b, perform (.flashRd fa) t = .next w ∧ w.result = .byte b ∧ b ≠ v)
      ∧ performAll [.flashRd fa, .flashRd fa, .flashRd fa, .flashRd fa] t = .next u
      ∧ ∃ w, perform (.flashRd fa) u = .next w ∧ w.result = .byte v

/-! ## The raster -/

/-- 00 R9, 41 R171, R172, R174 to R177, R182, R186: one TICK under the table that `TV` selects: the counters, every flag as a function of them, the line drawn at a new
visible line, and nothing else but the trace. -/
def Obligations.TickAdvancesTheRaster : Prop :=
  ∀ s : State, s.life = .live → s.Good →
    let wrap := decide (s.raster.hcnt + 1 = (tvTable s.cfg).cpl)
    let h := if wrap then 0 else s.raster.hcnt + 1
    let l := if wrap then (s.raster.line + 1) % (tvTable s.cfg).lpf else s.raster.line
    let g := tvTable s.cfg
    ∃ t, exec .tick s = .next t
      ∧ t.raster =
        { line := l, hcnt := h, hblank := decide (g.tHbs ≤ h ∧ h < g.tHbe), hsync := decide (g.tHss ≤ h ∧ h < g.tHse),
          vblank := decide (200 ≤ l), vsync := decide (g.vsStart ≤ l ∧ l < g.vsEnd), tempo := s.raster.tempo,
          blink := s.raster.blink, blankVram := decide (g.tHbs ≤ h), pcgSafe := s.cfg.overlay && decide (g.tPcg ≤ h),
          stall := s.raster.stall && !wrap && !decide (h = g.tPcg) }
      ∧ t.video = (if wrap = true ∧ l < 200 then (s.drawLine l).video else s.video)
      ∧ t = { s with raster := t.raster, trace := t.trace, video := t.video, result := .done }

/-- 41 R172, R173: the order of the records one TICK appends. -/
def Obligations.TickEmitsInOrder : Prop :=
  ∀ s t : State, s.Good → exec .tick s = .next t →
    t.trace = s.trace
      ++ (if s.raster.hcnt + 1 = (tvTable s.cfg).cpl then
            records .vblank s.raster.vblank t.raster.vblank ++ records .vsync s.raster.vsync t.raster.vsync else [])
      ++ records .hblank s.raster.hblank t.raster.hblank ++ records .hsync s.raster.hsync t.raster.hsync
      ++ records .busreq s.raster.stall t.raster.stall

/-- 41 R172: EV_NEWLINE. -/
def Obligations.NewlineRecomputesTheFlags : Prop :=
  ∀ s : State, s.life = .live →
    let v := decide (200 ≤ s.raster.line)
    let y := decide ((tvTable s.cfg).vsStart ≤ s.raster.line ∧ s.raster.line < (tvTable s.cfg).vsEnd)
    exec .evNewline s = .next
      { s with
        raster := { s.raster with vblank := v, vsync := y, hblank := false, hsync := false, blankVram := false,
                                  pcgSafe := s.raster.pcgSafe && !s.cfg.overlay, stall := s.raster.stall && !s.cfg.overlay }
        trace := s.trace ++ records .vblank s.raster.vblank v ++ records .vsync s.raster.vsync y
          ++ records .hblank s.raster.hblank false ++ records .hsync s.raster.hsync false
          ++ records .busreq s.raster.stall (s.raster.stall && !s.cfg.overlay)
        video := if s.raster.line < 200 then (s.drawLine s.raster.line).video else s.video
        result := .done }

/-- 41 R174 to R177, R182, 60 R327: the four horizontal events, and the opening of the safe window, which releases the stall. -/
def Obligations.TimedEventsSetTheirFlags : Prop :=
  ∀ s : State, s.life = .live →
    exec .evHblankS s = .next { s with raster := { s.raster with hblank := true, blankVram := true },
                                       trace := s.trace ++ records .hblank s.raster.hblank true, result := .done }
      ∧ exec .evHblankE s = .next { s with raster := { s.raster with hblank := false },
                                           trace := s.trace ++ records .hblank s.raster.hblank false, result := .done }
      ∧ exec .evHsyncS s = .next { s with raster := { s.raster with hsync := true },
                                          trace := s.trace ++ records .hsync s.raster.hsync true, result := .done }
      ∧ exec .evHsyncE s = .next { s with raster := { s.raster with hsync := false },
                                          trace := s.trace ++ records .hsync s.raster.hsync false, result := .done }
      ∧ (s.cfg.overlay = true → exec .evPcgwin s = .next
          { s with raster := { s.raster with pcgSafe := true, stall := false },
                   trace := s.trace ++ records .busreq s.raster.stall false, result := .done })

/-- 41 R178, R179: the two periodic toggles and their signals. -/
def Obligations.TempoAndBlinkToggle : Prop :=
  ∀ s : State, s.life = .live →
    exec .tempo s = .next { s with raster := { s.raster with tempo := !s.raster.tempo },
                                   trace := s.trace ++ [(.tempo, !s.raster.tempo)], result := .done }
      ∧ exec .blink s = .next { s with raster := { s.raster with blink := !s.raster.blink },
                                       trace := s.trace ++ [(.blink, !s.raster.blink)], result := .done }

/-! ## The renderer -/

/-- 43 R260 to R269: the 320 pixels of the line, by the formulas, and nothing else. -/
def Obligations.RenderLineDrawsTheFormulas : Prop :=
  ∀ (s : State) (y : Nat), s.life = .live → s.Good → y < 200 →
    ∃ t, exec (.renderLine y) s = .next t
      ∧ (∀ c < 40, ∀ i < 8, t.framePixel y (8 * c + i) = expectedPixel s y c i)
      ∧ (∀ y' x, y' ≠ y → t.framePixel y' x = s.framePixel y' x)
      ∧ t = { s with video := { s.video with frame := t.video.frame }, result := .done }

/-- 43 R275: a drawn line depends on the configuration, `VRAM`, `CGROM`, `PCG` and `PRIORITY` alone. -/
def Obligations.RendererReadsItsInputsOnly : Prop :=
  ∀ (s u t w : State) (y : Nat), s.Good → u.Good → s.cfg = u.cfg → s.latch.priority = u.latch.priority →
    (∀ k, s.peek .vram k = u.peek .vram k) → (∀ k, s.peek .cgrom k = u.peek .cgrom k) → (∀ k, s.peek .pcg k = u.peek .pcg k) →
    exec (.renderLine y) s = .next t → exec (.renderLine y) u = .next w → ∀ x, t.framePixel y x = w.framePixel y x

/-- 43 R270 to R274: every pixel of the host buffer, and `PREV <- FRAME`. -/
def Obligations.PresentExpandsTheFrame : Prop :=
  ∀ s : State, s.life = .live → s.Good →
    ∃ t, exec .present s = .next t
      ∧ (∀ Y < 400, ∀ X < 640, t.hostPixel Y X
          = if s.cfg.scanline = true ∧ Y % 2 = 1 then { r := 0, g := 0, b := 0 }
            else expectedRgb s.cfg.blend (s.framePixel (Y / 2) (X / 2)) (s.prevPixel (Y / 2) (X / 2)))
      ∧ (∀ y x, t.prevPixel y x = s.framePixel y x)
      ∧ t = { s with video := { s.video with host := t.video.host, prev := t.video.prev }, result := .done }

/-- 43 R270: "PRESENT commutes with every bus and scheduler operation as far as their results go": before or after PRESENT the
operation returns the same and leaves the same but for `HOST` and `PREV`, which differ only where it draws a line of the frame. Equal
bytes of a peripheral read rest on the free byte being a function of the count of reads (log entry 7). -/
def Obligations.PresentCommutesWithTheBus : Prop :=
  ∀ (s p t : State) (r : Request), ofBusOrScheduler r → exec .present s = .next p → perform r s = .next t →
    ∃ u q, perform r p = .next u ∧ exec .present t = .next q
      ∧ u = { t with video := { t.video with host := p.video.host, prev := p.video.prev } }
      ∧ q = { u with video := { u.video with host := q.video.host, prev := q.video.prev }, result := .done }
      ∧ (t.video.frame = s.video.frame → q = { u with result := .done })

/-! ## The host's calls -/

/-- 70 R350, R352, 10 R35: what INITIALIZE leaves, byte by byte and register by register; no signal is emitted. -/
def Obligations.InitializeBuildsThePowerOnState : Prop :=
  ∀ (c : Config) (im : Images) (s : State), s.life = .unborn → c.Ok →
    ∃ t, exec (.initCore c im) s = .next t ∧ t.cfg = c ∧ t.life = .live
      ∧ t.latch = { mode := 0b011, pcgBank := 0, bootPage := 0, pcgData := 0, pcgAddr := 0, pcgCtrl := 0, priority := 0 }
      ∧ t.raster = { line := 0, hcnt := 0, hblank := false, hsync := false, vblank := false, vsync := false, tempo := false,
                     blink := false, blankVram := false, pcgSafe := false, stall := false }
      ∧ t.flash = { cycle := .idle, busy := 0, idMode := false } ∧ t.modified = false ∧ t.trace = s.trace
      ∧ (∀ k < c.iplSize, t.peek .ipl k = imageByte im.ipl k) ∧ (∀ k < c.cgSize, t.peek .cgrom k = imageByte im.cg k)
      ∧ (c.extrom = true → ∀ k < c.extSize, t.peek .ext k = imageByte im.ext k)
      ∧ (c.hasFlash = true → ∀ k < c.flashSize, t.peek .fstore k = imageByte im.flash k)
      ∧ (∀ k, t.peek .ram k = 0) ∧ (∀ k, t.peek .vram k = if 0x800 ≤ k ∧ k < 0xC00 then c.vramAttrFill else 0)
      ∧ (∀ k, t.peek .pcg k
          = if c.hasPcgPort = true ∧ (k < 0x400 ∨ 0x800 ≤ k ∧ k < 0xC00) then imageByte im.cg k else 0)
      ∧ ∀ y x, t.framePixel y x = 0 ∧ t.prevPixel y x = 0 ∧ t.hostPixel y x = { r := 0, g := 0, b := 0 }

/-- 70 R351: RESET: the registers of 10 R35, the memories, the frame and `MODIFIED` kept, and a record for every level dropped, in
the order of the rule. -/
def Obligations.ResetDropsTheLevelsInOrder : Prop :=
  ∀ s : State, s.life = .live → s.Good →
    exec .reset s = .next
      { s with
        latch := { mode := 0b011, pcgBank := 0, bootPage := 0, pcgData := 0, pcgAddr := 0, pcgCtrl := 0, priority := 0 }
        raster := { line := 0, hcnt := 0, hblank := false, hsync := false, vblank := false, vsync := false, tempo := false,
                    blink := false, blankVram := false, pcgSafe := false, stall := false }
        flash := { cycle := .idle, busy := 0, idMode := false }
        trace := s.trace ++ records .hblank s.raster.hblank false ++ records .hsync s.raster.hsync false
          ++ records .vblank s.raster.vblank false ++ records .vsync s.raster.vsync false
          ++ records .tempo s.raster.tempo false ++ records .blink s.raster.blink false
          ++ records .busreq s.raster.stall false
        result := .done }

/-- 44 R300, R301, R302: SNAP_SAVE returns the components and writes no state; a load of that snapshot into an instance of the same
kind restores every component, re-emits `BUSREQ` alone, and marks the flash modified. That the tags are the revision and the whole
configuration is the model's choice (log entry 14). -/
def Obligations.SnapshotRoundTrip : Prop :=
  ∀ s u : State, s.life = .live → s.Good → u.life = .live → u.Good → u.cfg = s.cfg →
    let p : Snapshot :=
      { version := s.cfg.revision, identity := s.cfg, pcg := s.mems.pcg, ram := s.mems.ram, vram := s.mems.vram,
        fstore := s.mems.fstore, latch := s.latch, timing := s.raster, flash := s.flash }
    exec .snapSave s = .next { s with result := .saved p }
      ∧ exec (.snapLoad p) u = .next
        { u with
          mems := { s.mems with ipl := u.mems.ipl, cgrom := u.mems.cgrom, ext := u.mems.ext }
          latch := s.latch, raster := s.raster, flash := s.flash, modified := s.cfg.hasFlash || u.modified
          trace := u.trace ++ records .busreq u.raster.stall s.raster.stall
          result := .loaded true }

/-- 44 R302: a tag mismatch returns false and changes nothing; a body outside `Snapshot.wf` is refused, for 60 R336 (d): among them a
chip erase under way over a store that is not all `0xFF` (42 R217, R230), a sector erase under way with no erased sector (R231), a
PCG byte where nothing writes one (40 R121, R134, 70 R350) and a boot page above a data byte (40 R147). The tags' values (log
entry 14) and `Snapshot.wf` as what SNAP_SAVE can produce (log entry 15) are the model's. -/
def Obligations.MismatchedSnapshotChangesNothing : Prop :=
  ∀ (s : State) (p : Snapshot), s.life = .live →
    (p.version ≠ s.cfg.revision ∨ p.identity ≠ s.cfg → exec (.snapLoad p) s = .next { s with result := .loaded false })
      ∧ (p.version = s.cfg.revision → p.identity = s.cfg → p.wf = false → exec (.snapLoad p) s = .refused .forgedSnapshot)
      ∧ (p.version = s.cfg.revision → p.identity = s.cfg →
          let stored := Sparse.get (fillOf s.cfg .fstore) p.fstore
          (5000 < p.flash.busy ∧ (∃ k, stored k ≠ 0xFF))
            ∨ (4 < p.flash.busy ∧ ∀ n < s.cfg.flashSize / 4096, ∃ k, k / 4096 = n ∧ stored k ≠ 0xFF)
            ∨ (s.cfg.overlay = false ∧ s.cfg.hasPcgPort = false ∧ ∃ k, Sparse.get (fillOf s.cfg .pcg) p.pcg k ≠ 0)
            ∨ 255 < p.latch.bootPage →
          exec (.snapLoad p) s = .refused .forgedSnapshot)

/-- 44 R302: two instances equal in what a snapshot holds (and in their ROM images) answer every bus and scheduler operation alike and
stay equal: "it holds for all bus and scheduler operations, not only reads". The one result that may differ is a collaborator's byte:
where the operation reads one, equal results are claimed only for equal counts of bytes read before, since the model's free byte is
a function of that count (log entry 7). -/
def Obligations.EqualInstancesAnswerAlike : Prop :=
  ∀ (s t s' : State) (r : Request), ofBusOrScheduler r → SameToTheBus s t → perform r s = .next s' →
    ∃ t', perform r t = .next t' ∧ SameToTheBus s' t' ∧ s'.draws + t.draws = t'.draws + s.draws
      ∧ (s'.draws = s.draws ∨ s.draws = t.draws → t'.result = s'.result)
      ∧ (∃ evs, s'.trace = s.trace ++ evs ∧ t'.trace = t.trace ++ evs)
      ∧ ∃ calls, s'.periph = s.periph ++ calls ∧ t'.periph = t.periph ++ calls

/-- 44 R303, 60 R336 (b): RELEASE hands the whole flash store over when it was modified, nothing otherwise, and no operation may follow.
That the released state keeps its other fields is the model's choice (log entry 21), and so is the refusal's name (log entry 8). -/
def Obligations.ReleaseHandsOverAModifiedFlash : Prop :=
  ∀ s : State, s.life = .live →
    ∃ img t, exec .release s = .next t ∧ t = { s with life := .released, result := .image img }
      ∧ (∀ i, exec i t = .refused .released)
      ∧ (img.isSome = true ↔ s.cfg.hasFlash = true ∧ s.modified = true)
      ∧ ∀ bytes, img = some bytes → bytes.length = s.cfg.flashSize ∧ ∀ k < s.cfg.flashSize, bytes[k]? = some (s.peek .fstore k)
end

