-- ==== Sys2Proof/Laws/Bits.lean ====
section
/-! SUPPORT. The fields of the codes (30 R91, R94) and the assembled quantities (30 R95) as numbers. -/

namespace Sys2Proof

/-- The transaction code as a number. -/
theorem mkTc_toNat (k : BitVec 2) (a : Addr) (d : Byte) :
    (mkTc k a d).toNat = k.toNat * 2 ^ 24 + (a.toNat * 2 ^ 8 + d.toNat) := by
  have e : (a ++ d : BitVec 24).toNat = a.toNat * 2 ^ 8 + d.toNat := by
    have : (a ++ d : BitVec 24).toNat = a.toNat <<< 8 ||| d.toNat := BitVec.toNat_append a d
    rw [this, ← Nat.shiftLeft_add_eq_or_of_lt d.isLt, Nat.shiftLeft_eq]
  have : (mkTc k a d).toNat = k.toNat <<< 24 ||| (a ++ d : BitVec 24).toNat := BitVec.toNat_append k _
  rw [this, ← Nat.shiftLeft_add_eq_or_of_lt (a ++ d : BitVec 24).isLt, Nat.shiftLeft_eq, e]

@[simp] theorem tcKind_mkTc (k : BitVec 2) (a : Addr) (d : Byte) : tcKind (mkTc k a d) = k := by
  apply BitVec.eq_of_toNat_eq
  have := a.isLt; have := d.isLt; have := k.isLt
  simp only [tcKind, BitVec.extractLsb'_toNat, mkTc_toNat, Nat.shiftRight_eq_div_pow]
  omega

@[simp] theorem tcAddr_mkTc (k : BitVec 2) (a : Addr) (d : Byte) : tcAddr (mkTc k a d) = a := by
  apply BitVec.eq_of_toNat_eq
  have := a.isLt; have := d.isLt; have := k.isLt
  simp only [tcAddr, BitVec.extractLsb'_toNat, mkTc_toNat, Nat.shiftRight_eq_div_pow]
  omega

@[simp] theorem tcData_mkTc (k : BitVec 2) (a : Addr) (d : Byte) : tcData (mkTc k a d) = d := by
  apply BitVec.eq_of_toNat_eq
  have := a.isLt; have := d.isLt; have := k.isLt
  simp only [tcData, BitVec.extractLsb'_toNat, mkTc_toNat, Nat.shiftRight_eq_div_pow]
  omega

@[simp] theorem tcPort_mkTc (k : BitVec 2) (a : Addr) (d : Byte) : tcPort (mkTc k a d) = a.setWidth 8 := by
  apply BitVec.eq_of_toNat_eq
  have := a.isLt; have := d.isLt; have := k.isLt
  simp only [tcPort, BitVec.extractLsb'_toNat, mkTc_toNat, Nat.shiftRight_eq_div_pow, BitVec.toNat_setWidth]
  omega

/-- A port widened to the address field and cut again is the port. -/
@[simp] theorem port_setWidth (p : Port) : (p.setWidth 16).setWidth 8 = p := by
  apply BitVec.eq_of_toNat_eq
  have := p.isLt
  simp only [BitVec.toNat_setWidth]
  omega

@[simp] theorem bootAddr_toNat (off : BitVec 12) : (bootAddr off).toNat = off.toNat := by
  have := off.isLt
  simp only [bootAddr, BitVec.toNat_setWidth]
  omega

@[simp] theorem vramAddr_toNat (off : BitVec 12) : (vramAddr off).toNat = 0xD000 + off.toNat := by
  have := off.isLt
  have e : (0xD000 : Addr).toNat = 0xD000 := rfl
  simp only [vramAddr, BitVec.toNat_add, BitVec.toNat_setWidth, e]
  omega

@[simp] theorem low12_toNat (a : Addr) : (low12 a).toNat = a.toNat % 0x1000 := by
  simp only [low12, BitVec.toNat_setWidth]

@[simp] theorem low12_bootAddr (off : BitVec 12) : low12 (bootAddr off) = off := by
  apply BitVec.eq_of_toNat_eq
  have := off.isLt
  rw [low12_toNat, bootAddr_toNat]
  omega

@[simp] theorem low12_vramAddr (off : BitVec 12) : low12 (vramAddr off) = off := by
  apply BitVec.eq_of_toNat_eq
  have := off.isLt
  rw [low12_toNat, vramAddr_toNat]
  omega

/-- Below the low boot window's end an address is its own offset. -/
theorem bootAddr_low12 {a : Addr} (h : a.toNat < 0x1000) : bootAddr (low12 a) = a := by
  apply BitVec.eq_of_toNat_eq
  rw [bootAddr_toNat, low12_toNat]
  omega

/-- In the VRAM range an address is `0xD000` and its offset. -/
theorem vramAddr_low12 {a : Addr} (h : 0xD000 ≤ a.toNat) (h' : a.toNat ≤ 0xDFFF) : vramAddr (low12 a) = a := by
  apply BitVec.eq_of_toNat_eq
  rw [vramAddr_toNat, low12_toNat]
  omega

/-- The comparison code as a number, with the mask of 00 R7. -/
theorem comparisonCode_toNat {c : Config} (h : c.flashCmdAddrMask = 0x7FFF) (fa : Nat) (v : Byte) :
    (comparisonCode c fa v).toNat = (fa % 2 ^ 15) * 2 ^ 8 + v.toNat := by
  have e : fa &&& 0x7FFF = fa % 2 ^ 15 := by
    have := Nat.and_two_pow_sub_one_eq_mod fa 15
    simpa using this
  have : (comparisonCode c fa v).toNat = (BitVec.ofNat 15 (fa &&& c.flashCmdAddrMask)).toNat <<< 8 ||| v.toNat :=
    BitVec.toNat_append _ v
  rw [this, ← Nat.shiftLeft_add_eq_or_of_lt v.isLt, Nat.shiftLeft_eq, h, e, BitVec.toNat_ofNat, Nat.mod_mod]

/-- A code of the protocol matches exactly on the low 15 address bits and the data byte (42 R218). -/
theorem comparisonCode_eq {c : Config} (h : c.flashCmdAddrMask = 0x7FFF) (fa : Nat) (v : Byte) (k : BitVec 23) :
    comparisonCode c fa v = k ↔ fa % 2 ^ 15 = k.toNat / 2 ^ 8 ∧ v.toNat = k.toNat % 2 ^ 8 := by
  rw [← BitVec.toNat_inj, comparisonCode_toNat h]
  have := v.isLt
  omega

/-- The PCG write-port offset as a number (40 R138). -/
theorem pcgPortOffset_toNat (d p : Byte) : (pcgPortOffset d p).toNat
    = (if d.getLsbD 2 then 0xC00 else 0x400) + 256 * (d.toNat % 4) + p.toNat := by
  have hp := p.isLt
  have ed : (d.extractLsb' 0 2).toNat = d.toNat % 4 := by simp [BitVec.extractLsb'_toNat]
  have e2 : ((d.extractLsb' 0 2).setWidth 12 <<< 8 : BitVec 12).toNat = (d.toNat % 4) * 2 ^ 8 := by
    simp only [BitVec.toNat_shiftLeft, BitVec.toNat_setWidth, ed, Nat.shiftLeft_eq]
    omega
  have e3 : (p.setWidth 12).toNat = p.toNat := by simp only [BitVec.toNat_setWidth]; omega
  have hor : ∀ i q : Nat, i < 2 ^ 8 → q * 2 ^ 8 ||| i = q * 2 ^ 8 + i := fun i q hi => by
    rw [← Nat.shiftLeft_eq, ← Nat.shiftLeft_add_eq_or_of_lt hi]
  have hq : ∀ q : Nat, q < 4 → ∀ h : Bool,
      (if h then 0xC00#12 else 0x400#12).toNat ||| q * 2 ^ 8 = ((if h then 0xC else 0x4) + q) * 2 ^ 8 := by
    decide
  unfold pcgPortOffset
  rw [BitVec.toNat_or, BitVec.toNat_or, e2, e3, hq _ (by omega), hor _ _ hp]
  split <;> omega

end Sys2Proof
end

