-- ==== Sys2Proof/Laws/Memory.lean ====
section
/-! SUPPORT. The laws of the sparse buffers: read after write, the other indices, and that every operation keeps the
canonical form. -/

namespace Sys2Proof

variable {α : Type} [DecidableEq α] {fill : Nat → α} {m : Sparse α} {k j n lo i : Nat} {v : α}

omit [DecidableEq α] in
@[simp] theorem Sparse.get_nil : Sparse.get fill [] k = fill k := rfl

omit [DecidableEq α] in
theorem Sparse.get_cons_entry : Sparse.get fill ((j, v) :: m) k = if j = k then v else Sparse.get fill m k := rfl

omit [DecidableEq α] in
/-- An index listed nowhere reads as the fill. -/
theorem Sparse.get_of_not_mem (h : ∀ p ∈ m, p.1 ≠ k) : Sparse.get fill m k = fill k := by
  induction m with
  | nil => rfl
  | cons p m ih =>
    obtain ⟨j, u⟩ := p
    have hj : j ≠ k := h (j, u) (by simp)
    simp only [Sparse.get, if_neg hj]
    exact ih fun q hq => h q (by simp [hq])

theorem Sparse.get_cons_other (h : j ≠ k) : Sparse.get fill (Sparse.cons fill j v m) k = Sparse.get fill m k := by
  unfold Sparse.cons
  split
  · rfl
  · simp [Sparse.get, h]

theorem Sparse.get_cons_same (h : ∀ p ∈ m, p.1 ≠ k) : Sparse.get fill (Sparse.cons fill k v m) k = v := by
  unfold Sparse.cons
  split
  · next e => rw [Sparse.get_of_not_mem h, e]
  · simp [Sparse.get]

theorem Sparse.mem_cons_entry {p : Nat × α} (h : p ∈ Sparse.cons fill k v m) : p = (k, v) ∧ v ≠ fill k ∨ p ∈ m := by
  unfold Sparse.cons at h
  split at h
  · exact .inr h
  · next e =>
    rcases List.mem_cons.mp h with h | h
    · exact .inl ⟨h, e⟩
    · exact .inr h

/-- A store leaves every other index alone. -/
theorem Sparse.get_set_other (h : k ≠ j) : Sparse.get fill (Sparse.set fill m k v) j = Sparse.get fill m j := by
  induction m with
  | nil => exact Sparse.get_cons_other h
  | cons p m ih =>
    obtain ⟨i, u⟩ := p
    unfold Sparse.set
    split
    · exact Sparse.get_cons_other h
    · split
      · next e =>
        subst e
        rw [Sparse.get_cons_other h]
        simp [Sparse.get, h]
      · simp only [Sparse.get, ih]

/-- A store to a rising list is read back. -/
theorem Sparse.get_set_same (h : m.Pairwise (fun p q => p.1 < q.1)) :
    Sparse.get fill (Sparse.set fill m k v) k = v := by
  induction m with
  | nil => exact Sparse.get_cons_same (by simp)
  | cons p m ih =>
    obtain ⟨i, u⟩ := p
    obtain ⟨hlt, hm⟩ := List.pairwise_cons.mp h
    unfold Sparse.set
    split
    · next hk =>
      refine Sparse.get_cons_same fun q hq => ?_
      rcases List.mem_cons.mp hq with rfl | hq
      · exact (Nat.ne_of_gt hk)
      · exact Nat.ne_of_gt (Nat.lt_trans hk (hlt q hq))
    · split
      · next e =>
        subst e
        exact Sparse.get_cons_same fun q hq => Nat.ne_of_gt (hlt q hq)
      · next hne =>
        have : i ≠ k := fun e => hne e.symm
        simp only [Sparse.get, if_neg this, ih hm]

/-- Read after write, at every index. -/
theorem Sparse.get_set (h : m.Pairwise (fun p q => p.1 < q.1)) :
    Sparse.get fill (Sparse.set fill m k v) j = if k = j then v else Sparse.get fill m j := by
  split
  · next e => subst e; exact Sparse.get_set_same h
  · next e => exact Sparse.get_set_other e

theorem Sparse.mem_set {p : Nat × α} (h : p ∈ Sparse.set fill m k v) : p = (k, v) ∧ v ≠ fill k ∨ p ∈ m := by
  induction m with
  | nil => exact Sparse.mem_cons_entry h
  | cons q m ih =>
    obtain ⟨i, u⟩ := q
    unfold Sparse.set at h
    split at h
    · exact Sparse.mem_cons_entry h
    · split at h
      · exact (Sparse.mem_cons_entry h).imp_right (List.mem_cons_of_mem _)
      · rcases List.mem_cons.mp h with rfl | h
        · exact .inr (by simp)
        · exact (ih h).imp_right (List.mem_cons_of_mem _)

theorem Sparse.pairwise_cons_entry (hm : m.Pairwise (fun p q => p.1 < q.1)) (h : ∀ p ∈ m, k < p.1) :
    (Sparse.cons fill k v m).Pairwise (fun p q => p.1 < q.1) := by
  unfold Sparse.cons
  split
  · exact hm
  · exact List.pairwise_cons.mpr ⟨h, hm⟩

theorem Sparse.pairwise_set (h : m.Pairwise (fun p q => p.1 < q.1)) :
    (Sparse.set fill m k v).Pairwise (fun p q => p.1 < q.1) := by
  induction m with
  | nil => exact Sparse.pairwise_cons_entry List.Pairwise.nil (by simp)
  | cons p m ih =>
    obtain ⟨i, u⟩ := p
    obtain ⟨hlt, hm⟩ := List.pairwise_cons.mp h
    unfold Sparse.set
    split
    · next hk =>
      refine Sparse.pairwise_cons_entry h fun q hq => ?_
      rcases List.mem_cons.mp hq with rfl | hq
      · exact hk
      · exact Nat.lt_trans hk (hlt q hq)
    · split
      · next e =>
        subst e
        exact Sparse.pairwise_cons_entry hm hlt
      · next h1 h2 =>
        refine List.pairwise_cons.mpr ⟨fun q hq => ?_, ih hm⟩
        rcases Sparse.mem_set hq with ⟨rfl, -⟩ | hq
        · show i < k
          omega
        · exact hlt q hq

/-- A store inside the buffer keeps the canonical form. -/
theorem Sparse.wf_set (h : Sparse.Wf fill n m) (hk : k < n) : Sparse.Wf fill n (Sparse.set fill m k v) := by
  refine ⟨Sparse.pairwise_set h.1, fun p hp => ?_⟩
  rcases Sparse.mem_set hp with ⟨rfl, hv⟩ | hp
  · exact ⟨hk, hv⟩
  · exact h.2 p hp

omit [DecidableEq α] in
theorem Sparse.wf_nil : Sparse.Wf fill n ([] : Sparse α) := ⟨List.Pairwise.nil, by simp⟩

omit [DecidableEq α] in
/-- Clearing a range returns it to the fill and leaves the rest alone. -/
theorem Sparse.get_clear : Sparse.get fill (Sparse.clear m lo n) k
    = if lo ≤ k ∧ k < lo + n then fill k else Sparse.get fill m k := by
  induction m with
  | nil => simp [Sparse.clear, Sparse.get]
  | cons p m ih =>
    obtain ⟨i, u⟩ := p
    simp only [Sparse.clear, List.filter_cons] at ih ⊢
    by_cases hi : i < lo ∨ lo + n ≤ i
    · simp only [hi, decide_true, if_true, Sparse.get, ih]
      by_cases e : i = k
      · subst e
        have : ¬(lo ≤ i ∧ i < lo + n) := by omega
        simp [this]
      · simp [e]
    · simp only [hi, decide_false, Bool.false_eq_true, if_false, ih, Sparse.get]
      by_cases e : i = k
      · subst e
        have : lo ≤ i ∧ i < lo + n := by omega
        simp [this]
      · simp [e]

omit [DecidableEq α] in
theorem Sparse.wf_clear {size : Nat} (h : Sparse.Wf fill size m) : Sparse.Wf fill size (Sparse.clear m lo n) :=
  ⟨h.1.filter _, fun p hp => h.2 p (List.mem_filter.mp hp).1⟩

/-- The entries of a tabulated buffer lie in its range and are not the fill. -/
theorem Sparse.mem_tabulate {f : Nat → α} {p : Nat × α} (h : p ∈ Sparse.tabulate fill f i n) :
    i ≤ p.1 ∧ p.1 < i + n ∧ p.2 ≠ fill p.1 := by
  induction n generalizing i with
  | zero => simp [Sparse.tabulate] at h
  | succ n ih =>
    rcases Sparse.mem_cons_entry h with ⟨rfl, hv⟩ | h
    · exact ⟨Nat.le_refl _, by simp, hv⟩
    · have := ih h
      exact ⟨by omega, by omega, this.2.2⟩

theorem Sparse.pairwise_tabulate {f : Nat → α} :
    (Sparse.tabulate fill f i n).Pairwise (fun p q => p.1 < q.1) := by
  induction n generalizing i with
  | zero => exact List.Pairwise.nil
  | succ n ih => exact Sparse.pairwise_cons_entry ih fun p hp => by have := Sparse.mem_tabulate hp; omega

theorem Sparse.get_tabulate {f : Nat → α} : Sparse.get fill (Sparse.tabulate fill f i n) k
    = if i ≤ k ∧ k < i + n then f k else fill k := by
  induction n generalizing i with
  | zero => simp [Sparse.tabulate]
  | succ n ih =>
    unfold Sparse.tabulate
    by_cases e : i = k
    · subst e
      rw [Sparse.get_cons_same fun p hp => by have := Sparse.mem_tabulate hp; omega]
      simp
    · rw [Sparse.get_cons_other e, ih]
      congr 1
      simp only [eq_iff_iff]
      omega

/-- The entries of a loaded buffer lie in its range and are not the fill. -/
theorem Sparse.mem_load {vs : List α} {p : Nat × α} (h : p ∈ Sparse.load fill i vs) :
    i ≤ p.1 ∧ p.1 < i + vs.length ∧ p.2 ≠ fill p.1 := by
  induction vs generalizing i with
  | nil => simp [Sparse.load] at h
  | cons v vs ih =>
    rcases Sparse.mem_cons_entry h with ⟨rfl, hv⟩ | h
    · exact ⟨Nat.le_refl _, by simp, hv⟩
    · have := ih h
      simp only [List.length_cons]
      exact ⟨by omega, by omega, this.2.2⟩

theorem Sparse.pairwise_load {vs : List α} : (Sparse.load fill i vs).Pairwise (fun p q => p.1 < q.1) := by
  induction vs generalizing i with
  | nil => exact List.Pairwise.nil
  | cons v vs ih => exact Sparse.pairwise_cons_entry ih fun p hp => by have := Sparse.mem_load hp; omega

theorem Sparse.get_load {vs : List α} : Sparse.get fill (Sparse.load fill i vs) k
    = if i ≤ k then vs.getD (k - i) (fill k) else fill k := by
  induction vs generalizing i with
  | nil => simp [Sparse.load]
  | cons v vs ih =>
    unfold Sparse.load
    by_cases e : i = k
    · subst e
      rw [Sparse.get_cons_same fun p hp => by have := Sparse.mem_load hp; omega]
      simp
    · rw [Sparse.get_cons_other e, ih]
      by_cases hk : i ≤ k
      · have h1 : i + 1 ≤ k := by omega
        have h2 : k - i = (k - (i + 1)) + 1 := by omega
        simp [hk, h1, h2]
      · have h1 : ¬ i + 1 ≤ k := by omega
        simp [hk, h1]

/-- `LoadImage` gives a buffer in canonical form. -/
theorem wf_loadImage {fill : Nat → Byte} {size : Nat} {img : Option (List Byte)} :
    Sparse.Wf fill size (loadImage fill size img) := by
  cases img with
  | none => exact Sparse.wf_nil
  | some vs =>
    refine ⟨Sparse.pairwise_load, fun p hp => ?_⟩
    have h := Sparse.mem_load hp
    have : (vs.take size).length ≤ size := by simp
    exact ⟨by omega, h.2.2⟩

/-- `LoadImage` (70 R352), byte by byte: the image's bytes, then the fill. -/
theorem get_loadImage {fill : Nat → Byte} {size : Nat} {vs : List Byte} :
    Sparse.get fill (loadImage fill size (some vs)) k = (vs.take size).getD k (fill k) := by
  simp [loadImage, Sparse.get_load]

end Sys2Proof
end

