-- ==== Sys2Proof/Laws/State.lean ====
section
/-! SUPPORT. One lemma per field per named update of the state, so that no later proof unfolds a record update. The lemma of a
field an update writes is given where the value does not depend on the configuration. -/

namespace Sys2Proof.Machine

variable (s : State)

/-! `answer` -/

@[simp] theorem State.answer_cfg (r : Result) : (s.answer r).cfg = s.cfg := rfl
@[simp] theorem State.answer_life (r : Result) : (s.answer r).life = s.life := rfl
@[simp] theorem State.answer_latch (r : Result) : (s.answer r).latch = s.latch := rfl
@[simp] theorem State.answer_raster (r : Result) : (s.answer r).raster = s.raster := rfl
@[simp] theorem State.answer_flash (r : Result) : (s.answer r).flash = s.flash := rfl
@[simp] theorem State.answer_modified (r : Result) : (s.answer r).modified = s.modified := rfl
@[simp] theorem State.answer_mems (r : Result) : (s.answer r).mems = s.mems := rfl
@[simp] theorem State.answer_video (r : Result) : (s.answer r).video = s.video := rfl
@[simp] theorem State.answer_trace (r : Result) : (s.answer r).trace = s.trace := rfl
@[simp] theorem State.answer_result (r : Result) : (s.answer r).result = r := rfl
@[simp] theorem State.answer_periph (r : Result) : (s.answer r).periph = s.periph := rfl
@[simp] theorem State.answer_draws (r : Result) : (s.answer r).draws = s.draws := rfl
@[simp] theorem State.answer_inbox (r : Result) : (s.answer r).inbox = s.inbox := rfl

/-! `poke` -/

@[simp] theorem State.poke_cfg (b : Buffer) (off : Nat) (v : Byte) : (s.poke b off v).cfg = s.cfg := rfl
@[simp] theorem State.poke_life (b : Buffer) (off : Nat) (v : Byte) : (s.poke b off v).life = s.life := rfl
@[simp] theorem State.poke_latch (b : Buffer) (off : Nat) (v : Byte) : (s.poke b off v).latch = s.latch := rfl
@[simp] theorem State.poke_raster (b : Buffer) (off : Nat) (v : Byte) : (s.poke b off v).raster = s.raster := rfl
@[simp] theorem State.poke_flash (b : Buffer) (off : Nat) (v : Byte) : (s.poke b off v).flash = s.flash := rfl
@[simp] theorem State.poke_modified (b : Buffer) (off : Nat) (v : Byte) : (s.poke b off v).modified = s.modified := rfl
@[simp] theorem State.poke_mems (b : Buffer) (off : Nat) (v : Byte) : (s.poke b off v).mems = putMem s.mems b (Sparse.set (fillOf s.cfg b) (s.mem b) off v) := rfl
@[simp] theorem State.poke_video (b : Buffer) (off : Nat) (v : Byte) : (s.poke b off v).video = s.video := rfl
@[simp] theorem State.poke_trace (b : Buffer) (off : Nat) (v : Byte) : (s.poke b off v).trace = s.trace := rfl
@[simp] theorem State.poke_result (b : Buffer) (off : Nat) (v : Byte) : (s.poke b off v).result = s.result := rfl
@[simp] theorem State.poke_periph (b : Buffer) (off : Nat) (v : Byte) : (s.poke b off v).periph = s.periph := rfl
@[simp] theorem State.poke_draws (b : Buffer) (off : Nat) (v : Byte) : (s.poke b off v).draws = s.draws := rfl
@[simp] theorem State.poke_inbox (b : Buffer) (off : Nat) (v : Byte) : (s.poke b off v).inbox = s.inbox := rfl

/-! `setMonL` -/

@[simp] theorem State.setMonL_cfg (b : Bool) : (s.setMonL b).cfg = s.cfg := rfl
@[simp] theorem State.setMonL_life (b : Bool) : (s.setMonL b).life = s.life := rfl
@[simp] theorem State.setMonL_latch (b : Bool) : (s.setMonL b).latch = { s.latch with mode := modeWith s.latch.mode 0 b } := rfl
@[simp] theorem State.setMonL_raster (b : Bool) : (s.setMonL b).raster = s.raster := rfl
@[simp] theorem State.setMonL_flash (b : Bool) : (s.setMonL b).flash = s.flash := rfl
@[simp] theorem State.setMonL_modified (b : Bool) : (s.setMonL b).modified = s.modified := rfl
@[simp] theorem State.setMonL_mems (b : Bool) : (s.setMonL b).mems = s.mems := rfl
@[simp] theorem State.setMonL_video (b : Bool) : (s.setMonL b).video = s.video := rfl
@[simp] theorem State.setMonL_trace (b : Bool) : (s.setMonL b).trace = s.trace := rfl
@[simp] theorem State.setMonL_result (b : Bool) : (s.setMonL b).result = s.result := rfl
@[simp] theorem State.setMonL_periph (b : Bool) : (s.setMonL b).periph = s.periph := rfl
@[simp] theorem State.setMonL_draws (b : Bool) : (s.setMonL b).draws = s.draws := rfl
@[simp] theorem State.setMonL_inbox (b : Bool) : (s.setMonL b).inbox = s.inbox := rfl

/-! `setMonH` -/

@[simp] theorem State.setMonH_cfg (b : Bool) : (s.setMonH b).cfg = s.cfg := rfl
@[simp] theorem State.setMonH_life (b : Bool) : (s.setMonH b).life = s.life := rfl
@[simp] theorem State.setMonH_latch (b : Bool) : (s.setMonH b).latch = { s.latch with mode := modeWith s.latch.mode 1 b } := rfl
@[simp] theorem State.setMonH_raster (b : Bool) : (s.setMonH b).raster = s.raster := rfl
@[simp] theorem State.setMonH_flash (b : Bool) : (s.setMonH b).flash = s.flash := rfl
@[simp] theorem State.setMonH_modified (b : Bool) : (s.setMonH b).modified = s.modified := rfl
@[simp] theorem State.setMonH_mems (b : Bool) : (s.setMonH b).mems = s.mems := rfl
@[simp] theorem State.setMonH_video (b : Bool) : (s.setMonH b).video = s.video := rfl
@[simp] theorem State.setMonH_trace (b : Bool) : (s.setMonH b).trace = s.trace := rfl
@[simp] theorem State.setMonH_result (b : Bool) : (s.setMonH b).result = s.result := rfl
@[simp] theorem State.setMonH_periph (b : Bool) : (s.setMonH b).periph = s.periph := rfl
@[simp] theorem State.setMonH_draws (b : Bool) : (s.setMonH b).draws = s.draws := rfl
@[simp] theorem State.setMonH_inbox (b : Bool) : (s.setMonH b).inbox = s.inbox := rfl

/-! `setPcgEn` -/

@[simp] theorem State.setPcgEn_cfg (b : Bool) : (s.setPcgEn b).cfg = s.cfg := by unfold State.setPcgEn; split <;> rfl
@[simp] theorem State.setPcgEn_life (b : Bool) : (s.setPcgEn b).life = s.life := by unfold State.setPcgEn; split <;> rfl
@[simp] theorem State.setPcgEn_raster (b : Bool) : (s.setPcgEn b).raster = s.raster := by unfold State.setPcgEn; split <;> rfl
@[simp] theorem State.setPcgEn_flash (b : Bool) : (s.setPcgEn b).flash = s.flash := by unfold State.setPcgEn; split <;> rfl
@[simp] theorem State.setPcgEn_modified (b : Bool) : (s.setPcgEn b).modified = s.modified := by unfold State.setPcgEn; split <;> rfl
@[simp] theorem State.setPcgEn_mems (b : Bool) : (s.setPcgEn b).mems = s.mems := by unfold State.setPcgEn; split <;> rfl
@[simp] theorem State.setPcgEn_video (b : Bool) : (s.setPcgEn b).video = s.video := by unfold State.setPcgEn; split <;> rfl
@[simp] theorem State.setPcgEn_trace (b : Bool) : (s.setPcgEn b).trace = s.trace := by unfold State.setPcgEn; split <;> rfl
@[simp] theorem State.setPcgEn_result (b : Bool) : (s.setPcgEn b).result = s.result := by unfold State.setPcgEn; split <;> rfl
@[simp] theorem State.setPcgEn_periph (b : Bool) : (s.setPcgEn b).periph = s.periph := by unfold State.setPcgEn; split <;> rfl
@[simp] theorem State.setPcgEn_draws (b : Bool) : (s.setPcgEn b).draws = s.draws := by unfold State.setPcgEn; split <;> rfl
@[simp] theorem State.setPcgEn_inbox (b : Bool) : (s.setPcgEn b).inbox = s.inbox := by unfold State.setPcgEn; split <;> rfl

/-! `setPcgBank` -/

@[simp] theorem State.setPcgBank_cfg (k : BitVec 2) : (s.setPcgBank k).cfg = s.cfg := by unfold State.setPcgBank; split <;> rfl
@[simp] theorem State.setPcgBank_life (k : BitVec 2) : (s.setPcgBank k).life = s.life := by unfold State.setPcgBank; split <;> rfl
@[simp] theorem State.setPcgBank_raster (k : BitVec 2) : (s.setPcgBank k).raster = s.raster := by unfold State.setPcgBank; split <;> rfl
@[simp] theorem State.setPcgBank_flash (k : BitVec 2) : (s.setPcgBank k).flash = s.flash := by unfold State.setPcgBank; split <;> rfl
@[simp] theorem State.setPcgBank_modified (k : BitVec 2) : (s.setPcgBank k).modified = s.modified := by unfold State.setPcgBank; split <;> rfl
@[simp] theorem State.setPcgBank_mems (k : BitVec 2) : (s.setPcgBank k).mems = s.mems := by unfold State.setPcgBank; split <;> rfl
@[simp] theorem State.setPcgBank_video (k : BitVec 2) : (s.setPcgBank k).video = s.video := by unfold State.setPcgBank; split <;> rfl
@[simp] theorem State.setPcgBank_trace (k : BitVec 2) : (s.setPcgBank k).trace = s.trace := by unfold State.setPcgBank; split <;> rfl
@[simp] theorem State.setPcgBank_result (k : BitVec 2) : (s.setPcgBank k).result = s.result := by unfold State.setPcgBank; split <;> rfl
@[simp] theorem State.setPcgBank_periph (k : BitVec 2) : (s.setPcgBank k).periph = s.periph := by unfold State.setPcgBank; split <;> rfl
@[simp] theorem State.setPcgBank_draws (k : BitVec 2) : (s.setPcgBank k).draws = s.draws := by unfold State.setPcgBank; split <;> rfl
@[simp] theorem State.setPcgBank_inbox (k : BitVec 2) : (s.setPcgBank k).inbox = s.inbox := by unfold State.setPcgBank; split <;> rfl

/-! `setPriority` -/

@[simp] theorem State.setPriority_cfg (p : BitVec 2) : (s.setPriority p).cfg = s.cfg := by unfold State.setPriority; split <;> rfl
@[simp] theorem State.setPriority_life (p : BitVec 2) : (s.setPriority p).life = s.life := by unfold State.setPriority; split <;> rfl
@[simp] theorem State.setPriority_raster (p : BitVec 2) : (s.setPriority p).raster = s.raster := by unfold State.setPriority; split <;> rfl
@[simp] theorem State.setPriority_flash (p : BitVec 2) : (s.setPriority p).flash = s.flash := by unfold State.setPriority; split <;> rfl
@[simp] theorem State.setPriority_modified (p : BitVec 2) : (s.setPriority p).modified = s.modified := by unfold State.setPriority; split <;> rfl
@[simp] theorem State.setPriority_mems (p : BitVec 2) : (s.setPriority p).mems = s.mems := by unfold State.setPriority; split <;> rfl
@[simp] theorem State.setPriority_video (p : BitVec 2) : (s.setPriority p).video = s.video := by unfold State.setPriority; split <;> rfl
@[simp] theorem State.setPriority_trace (p : BitVec 2) : (s.setPriority p).trace = s.trace := by unfold State.setPriority; split <;> rfl
@[simp] theorem State.setPriority_result (p : BitVec 2) : (s.setPriority p).result = s.result := by unfold State.setPriority; split <;> rfl
@[simp] theorem State.setPriority_periph (p : BitVec 2) : (s.setPriority p).periph = s.periph := by unfold State.setPriority; split <;> rfl
@[simp] theorem State.setPriority_draws (p : BitVec 2) : (s.setPriority p).draws = s.draws := by unfold State.setPriority; split <;> rfl
@[simp] theorem State.setPriority_inbox (p : BitVec 2) : (s.setPriority p).inbox = s.inbox := by unfold State.setPriority; split <;> rfl

/-! `setBootPage` -/

@[simp] theorem State.setBootPage_cfg (v : Byte) : (s.setBootPage v).cfg = s.cfg := by unfold State.setBootPage; split <;> rfl
@[simp] theorem State.setBootPage_life (v : Byte) : (s.setBootPage v).life = s.life := by unfold State.setBootPage; split <;> rfl
@[simp] theorem State.setBootPage_raster (v : Byte) : (s.setBootPage v).raster = s.raster := by unfold State.setBootPage; split <;> rfl
@[simp] theorem State.setBootPage_flash (v : Byte) : (s.setBootPage v).flash = s.flash := by unfold State.setBootPage; split <;> rfl
@[simp] theorem State.setBootPage_modified (v : Byte) : (s.setBootPage v).modified = s.modified := by unfold State.setBootPage; split <;> rfl
@[simp] theorem State.setBootPage_mems (v : Byte) : (s.setBootPage v).mems = s.mems := by unfold State.setBootPage; split <;> rfl
@[simp] theorem State.setBootPage_video (v : Byte) : (s.setBootPage v).video = s.video := by unfold State.setBootPage; split <;> rfl
@[simp] theorem State.setBootPage_trace (v : Byte) : (s.setBootPage v).trace = s.trace := by unfold State.setBootPage; split <;> rfl
@[simp] theorem State.setBootPage_result (v : Byte) : (s.setBootPage v).result = s.result := by unfold State.setBootPage; split <;> rfl
@[simp] theorem State.setBootPage_periph (v : Byte) : (s.setBootPage v).periph = s.periph := by unfold State.setBootPage; split <;> rfl
@[simp] theorem State.setBootPage_draws (v : Byte) : (s.setBootPage v).draws = s.draws := by unfold State.setBootPage; split <;> rfl
@[simp] theorem State.setBootPage_inbox (v : Byte) : (s.setBootPage v).inbox = s.inbox := by unfold State.setBootPage; split <;> rfl

/-! `setPcgData` -/

@[simp] theorem State.setPcgData_cfg (v : Byte) : (s.setPcgData v).cfg = s.cfg := by unfold State.setPcgData; split <;> rfl
@[simp] theorem State.setPcgData_life (v : Byte) : (s.setPcgData v).life = s.life := by unfold State.setPcgData; split <;> rfl
@[simp] theorem State.setPcgData_raster (v : Byte) : (s.setPcgData v).raster = s.raster := by unfold State.setPcgData; split <;> rfl
@[simp] theorem State.setPcgData_flash (v : Byte) : (s.setPcgData v).flash = s.flash := by unfold State.setPcgData; split <;> rfl
@[simp] theorem State.setPcgData_modified (v : Byte) : (s.setPcgData v).modified = s.modified := by unfold State.setPcgData; split <;> rfl
@[simp] theorem State.setPcgData_mems (v : Byte) : (s.setPcgData v).mems = s.mems := by unfold State.setPcgData; split <;> rfl
@[simp] theorem State.setPcgData_video (v : Byte) : (s.setPcgData v).video = s.video := by unfold State.setPcgData; split <;> rfl
@[simp] theorem State.setPcgData_trace (v : Byte) : (s.setPcgData v).trace = s.trace := by unfold State.setPcgData; split <;> rfl
@[simp] theorem State.setPcgData_result (v : Byte) : (s.setPcgData v).result = s.result := by unfold State.setPcgData; split <;> rfl
@[simp] theorem State.setPcgData_periph (v : Byte) : (s.setPcgData v).periph = s.periph := by unfold State.setPcgData; split <;> rfl
@[simp] theorem State.setPcgData_draws (v : Byte) : (s.setPcgData v).draws = s.draws := by unfold State.setPcgData; split <;> rfl
@[simp] theorem State.setPcgData_inbox (v : Byte) : (s.setPcgData v).inbox = s.inbox := by unfold State.setPcgData; split <;> rfl

/-! `setPcgAddr` -/

@[simp] theorem State.setPcgAddr_cfg (v : Byte) : (s.setPcgAddr v).cfg = s.cfg := by unfold State.setPcgAddr; split <;> rfl
@[simp] theorem State.setPcgAddr_life (v : Byte) : (s.setPcgAddr v).life = s.life := by unfold State.setPcgAddr; split <;> rfl
@[simp] theorem State.setPcgAddr_raster (v : Byte) : (s.setPcgAddr v).raster = s.raster := by unfold State.setPcgAddr; split <;> rfl
@[simp] theorem State.setPcgAddr_flash (v : Byte) : (s.setPcgAddr v).flash = s.flash := by unfold State.setPcgAddr; split <;> rfl
@[simp] theorem State.setPcgAddr_modified (v : Byte) : (s.setPcgAddr v).modified = s.modified := by unfold State.setPcgAddr; split <;> rfl
@[simp] theorem State.setPcgAddr_mems (v : Byte) : (s.setPcgAddr v).mems = s.mems := by unfold State.setPcgAddr; split <;> rfl
@[simp] theorem State.setPcgAddr_video (v : Byte) : (s.setPcgAddr v).video = s.video := by unfold State.setPcgAddr; split <;> rfl
@[simp] theorem State.setPcgAddr_trace (v : Byte) : (s.setPcgAddr v).trace = s.trace := by unfold State.setPcgAddr; split <;> rfl
@[simp] theorem State.setPcgAddr_result (v : Byte) : (s.setPcgAddr v).result = s.result := by unfold State.setPcgAddr; split <;> rfl
@[simp] theorem State.setPcgAddr_periph (v : Byte) : (s.setPcgAddr v).periph = s.periph := by unfold State.setPcgAddr; split <;> rfl
@[simp] theorem State.setPcgAddr_draws (v : Byte) : (s.setPcgAddr v).draws = s.draws := by unfold State.setPcgAddr; split <;> rfl
@[simp] theorem State.setPcgAddr_inbox (v : Byte) : (s.setPcgAddr v).inbox = s.inbox := by unfold State.setPcgAddr; split <;> rfl

/-! `setPcgCtrl` -/

@[simp] theorem State.setPcgCtrl_cfg (v : Byte) : (s.setPcgCtrl v).cfg = s.cfg := by unfold State.setPcgCtrl; split <;> rfl
@[simp] theorem State.setPcgCtrl_life (v : Byte) : (s.setPcgCtrl v).life = s.life := by unfold State.setPcgCtrl; split <;> rfl
@[simp] theorem State.setPcgCtrl_raster (v : Byte) : (s.setPcgCtrl v).raster = s.raster := by unfold State.setPcgCtrl; split <;> rfl
@[simp] theorem State.setPcgCtrl_flash (v : Byte) : (s.setPcgCtrl v).flash = s.flash := by unfold State.setPcgCtrl; split <;> rfl
@[simp] theorem State.setPcgCtrl_modified (v : Byte) : (s.setPcgCtrl v).modified = s.modified := by unfold State.setPcgCtrl; split <;> rfl
@[simp] theorem State.setPcgCtrl_mems (v : Byte) : (s.setPcgCtrl v).mems = s.mems := by unfold State.setPcgCtrl; split <;> rfl
@[simp] theorem State.setPcgCtrl_video (v : Byte) : (s.setPcgCtrl v).video = s.video := by unfold State.setPcgCtrl; split <;> rfl
@[simp] theorem State.setPcgCtrl_trace (v : Byte) : (s.setPcgCtrl v).trace = s.trace := by unfold State.setPcgCtrl; split <;> rfl
@[simp] theorem State.setPcgCtrl_result (v : Byte) : (s.setPcgCtrl v).result = s.result := by unfold State.setPcgCtrl; split <;> rfl
@[simp] theorem State.setPcgCtrl_periph (v : Byte) : (s.setPcgCtrl v).periph = s.periph := by unfold State.setPcgCtrl; split <;> rfl
@[simp] theorem State.setPcgCtrl_draws (v : Byte) : (s.setPcgCtrl v).draws = s.draws := by unfold State.setPcgCtrl; split <;> rfl
@[simp] theorem State.setPcgCtrl_inbox (v : Byte) : (s.setPcgCtrl v).inbox = s.inbox := by unfold State.setPcgCtrl; split <;> rfl

/-! `drive` -/

@[simp] theorem State.drive_cfg (g : Sig) (v : Bool) : (s.drive g v).cfg = s.cfg := by unfold State.drive; split <;> rfl
@[simp] theorem State.drive_life (g : Sig) (v : Bool) : (s.drive g v).life = s.life := by unfold State.drive; split <;> rfl
@[simp] theorem State.drive_latch (g : Sig) (v : Bool) : (s.drive g v).latch = s.latch := by unfold State.drive; split <;> rfl
@[simp] theorem State.drive_flash (g : Sig) (v : Bool) : (s.drive g v).flash = s.flash := by unfold State.drive; split <;> rfl
@[simp] theorem State.drive_modified (g : Sig) (v : Bool) : (s.drive g v).modified = s.modified := by unfold State.drive; split <;> rfl
@[simp] theorem State.drive_mems (g : Sig) (v : Bool) : (s.drive g v).mems = s.mems := by unfold State.drive; split <;> rfl
@[simp] theorem State.drive_video (g : Sig) (v : Bool) : (s.drive g v).video = s.video := by unfold State.drive; split <;> rfl
@[simp] theorem State.drive_result (g : Sig) (v : Bool) : (s.drive g v).result = s.result := by unfold State.drive; split <;> rfl
@[simp] theorem State.drive_periph (g : Sig) (v : Bool) : (s.drive g v).periph = s.periph := by unfold State.drive; split <;> rfl
@[simp] theorem State.drive_draws (g : Sig) (v : Bool) : (s.drive g v).draws = s.draws := by unfold State.drive; split <;> rfl
@[simp] theorem State.drive_inbox (g : Sig) (v : Bool) : (s.drive g v).inbox = s.inbox := by unfold State.drive; split <;> rfl

/-! `pcgStallCheck` -/

@[simp] theorem State.pcgStallCheck_cfg : s.pcgStallCheck.cfg = s.cfg := by unfold State.pcgStallCheck; split <;> simp
@[simp] theorem State.pcgStallCheck_life : s.pcgStallCheck.life = s.life := by unfold State.pcgStallCheck; split <;> simp
@[simp] theorem State.pcgStallCheck_latch : s.pcgStallCheck.latch = s.latch := by unfold State.pcgStallCheck; split <;> simp
@[simp] theorem State.pcgStallCheck_flash : s.pcgStallCheck.flash = s.flash := by unfold State.pcgStallCheck; split <;> simp
@[simp] theorem State.pcgStallCheck_modified : s.pcgStallCheck.modified = s.modified := by unfold State.pcgStallCheck; split <;> simp
@[simp] theorem State.pcgStallCheck_mems : s.pcgStallCheck.mems = s.mems := by unfold State.pcgStallCheck; split <;> simp
@[simp] theorem State.pcgStallCheck_video : s.pcgStallCheck.video = s.video := by unfold State.pcgStallCheck; split <;> simp
@[simp] theorem State.pcgStallCheck_result : s.pcgStallCheck.result = s.result := by unfold State.pcgStallCheck; split <;> simp
@[simp] theorem State.pcgStallCheck_periph : s.pcgStallCheck.periph = s.periph := by unfold State.pcgStallCheck; split <;> simp
@[simp] theorem State.pcgStallCheck_draws : s.pcgStallCheck.draws = s.draws := by unfold State.pcgStallCheck; split <;> simp
@[simp] theorem State.pcgStallCheck_inbox : s.pcgStallCheck.inbox = s.inbox := by unfold State.pcgStallCheck; split <;> simp

/-! `releaseStall` -/

@[simp] theorem State.releaseStall_cfg : s.releaseStall.cfg = s.cfg := by simp [State.releaseStall]
@[simp] theorem State.releaseStall_life : s.releaseStall.life = s.life := by simp [State.releaseStall]
@[simp] theorem State.releaseStall_latch : s.releaseStall.latch = s.latch := by simp [State.releaseStall]
@[simp] theorem State.releaseStall_flash : s.releaseStall.flash = s.flash := by simp [State.releaseStall]
@[simp] theorem State.releaseStall_modified : s.releaseStall.modified = s.modified := by simp [State.releaseStall]
@[simp] theorem State.releaseStall_mems : s.releaseStall.mems = s.mems := by simp [State.releaseStall]
@[simp] theorem State.releaseStall_video : s.releaseStall.video = s.video := by simp [State.releaseStall]
@[simp] theorem State.releaseStall_result : s.releaseStall.result = s.result := by simp [State.releaseStall]
@[simp] theorem State.releaseStall_periph : s.releaseStall.periph = s.periph := by simp [State.releaseStall]
@[simp] theorem State.releaseStall_draws : s.releaseStall.draws = s.draws := by simp [State.releaseStall]
@[simp] theorem State.releaseStall_inbox : s.releaseStall.inbox = s.inbox := by simp [State.releaseStall]

/-! `periphRead` -/

@[simp] theorem State.periphRead_cfg (dev : Dev) (k : Nat) : (s.periphRead dev k).cfg = s.cfg := rfl
@[simp] theorem State.periphRead_life (dev : Dev) (k : Nat) : (s.periphRead dev k).life = s.life := rfl
@[simp] theorem State.periphRead_latch (dev : Dev) (k : Nat) : (s.periphRead dev k).latch = s.latch := rfl
@[simp] theorem State.periphRead_raster (dev : Dev) (k : Nat) : (s.periphRead dev k).raster = s.raster := rfl
@[simp] theorem State.periphRead_flash (dev : Dev) (k : Nat) : (s.periphRead dev k).flash = s.flash := rfl
@[simp] theorem State.periphRead_modified (dev : Dev) (k : Nat) : (s.periphRead dev k).modified = s.modified := rfl
@[simp] theorem State.periphRead_mems (dev : Dev) (k : Nat) : (s.periphRead dev k).mems = s.mems := rfl
@[simp] theorem State.periphRead_video (dev : Dev) (k : Nat) : (s.periphRead dev k).video = s.video := rfl
@[simp] theorem State.periphRead_trace (dev : Dev) (k : Nat) : (s.periphRead dev k).trace = s.trace := rfl
@[simp] theorem State.periphRead_periph (dev : Dev) (k : Nat) : (s.periphRead dev k).periph = s.periph ++ [.read dev k] := rfl
@[simp] theorem State.periphRead_draws (dev : Dev) (k : Nat) : (s.periphRead dev k).draws = s.draws + 1 := rfl
@[simp] theorem State.periphRead_inbox (dev : Dev) (k : Nat) : (s.periphRead dev k).inbox = s.inbox := rfl

/-! `periphWrite` -/

@[simp] theorem State.periphWrite_cfg (dev : Dev) (k : Nat) (v : Byte) : (s.periphWrite dev k v).cfg = s.cfg := rfl
@[simp] theorem State.periphWrite_life (dev : Dev) (k : Nat) (v : Byte) : (s.periphWrite dev k v).life = s.life := rfl
@[simp] theorem State.periphWrite_latch (dev : Dev) (k : Nat) (v : Byte) : (s.periphWrite dev k v).latch = s.latch := rfl
@[simp] theorem State.periphWrite_raster (dev : Dev) (k : Nat) (v : Byte) : (s.periphWrite dev k v).raster = s.raster := rfl
@[simp] theorem State.periphWrite_flash (dev : Dev) (k : Nat) (v : Byte) : (s.periphWrite dev k v).flash = s.flash := rfl
@[simp] theorem State.periphWrite_modified (dev : Dev) (k : Nat) (v : Byte) : (s.periphWrite dev k v).modified = s.modified := rfl
@[simp] theorem State.periphWrite_mems (dev : Dev) (k : Nat) (v : Byte) : (s.periphWrite dev k v).mems = s.mems := rfl
@[simp] theorem State.periphWrite_video (dev : Dev) (k : Nat) (v : Byte) : (s.periphWrite dev k v).video = s.video := rfl
@[simp] theorem State.periphWrite_trace (dev : Dev) (k : Nat) (v : Byte) : (s.periphWrite dev k v).trace = s.trace := rfl
@[simp] theorem State.periphWrite_periph (dev : Dev) (k : Nat) (v : Byte) : (s.periphWrite dev k v).periph = s.periph ++ [.write dev k v] := rfl
@[simp] theorem State.periphWrite_draws (dev : Dev) (k : Nat) (v : Byte) : (s.periphWrite dev k v).draws = s.draws := rfl
@[simp] theorem State.periphWrite_inbox (dev : Dev) (k : Nat) (v : Byte) : (s.periphWrite dev k v).inbox = s.inbox := rfl

/-! `setCycle` -/

@[simp] theorem State.setCycle_cfg (k : Cycle) : (s.setCycle k).cfg = s.cfg := rfl
@[simp] theorem State.setCycle_life (k : Cycle) : (s.setCycle k).life = s.life := rfl
@[simp] theorem State.setCycle_latch (k : Cycle) : (s.setCycle k).latch = s.latch := rfl
@[simp] theorem State.setCycle_raster (k : Cycle) : (s.setCycle k).raster = s.raster := rfl
@[simp] theorem State.setCycle_flash (k : Cycle) : (s.setCycle k).flash = { s.flash with cycle := k } := rfl
@[simp] theorem State.setCycle_modified (k : Cycle) : (s.setCycle k).modified = s.modified := rfl
@[simp] theorem State.setCycle_mems (k : Cycle) : (s.setCycle k).mems = s.mems := rfl
@[simp] theorem State.setCycle_video (k : Cycle) : (s.setCycle k).video = s.video := rfl
@[simp] theorem State.setCycle_trace (k : Cycle) : (s.setCycle k).trace = s.trace := rfl
@[simp] theorem State.setCycle_result (k : Cycle) : (s.setCycle k).result = s.result := rfl
@[simp] theorem State.setCycle_periph (k : Cycle) : (s.setCycle k).periph = s.periph := rfl
@[simp] theorem State.setCycle_draws (k : Cycle) : (s.setCycle k).draws = s.draws := rfl
@[simp] theorem State.setCycle_inbox (k : Cycle) : (s.setCycle k).inbox = s.inbox := rfl

/-! `leaveIdMode` -/

@[simp] theorem State.leaveIdMode_cfg : s.leaveIdMode.cfg = s.cfg := rfl
@[simp] theorem State.leaveIdMode_life : s.leaveIdMode.life = s.life := rfl
@[simp] theorem State.leaveIdMode_latch : s.leaveIdMode.latch = s.latch := rfl
@[simp] theorem State.leaveIdMode_raster : s.leaveIdMode.raster = s.raster := rfl
@[simp] theorem State.leaveIdMode_flash : s.leaveIdMode.flash = { s.flash with idMode := false } := rfl
@[simp] theorem State.leaveIdMode_modified : s.leaveIdMode.modified = s.modified := rfl
@[simp] theorem State.leaveIdMode_mems : s.leaveIdMode.mems = s.mems := rfl
@[simp] theorem State.leaveIdMode_video : s.leaveIdMode.video = s.video := rfl
@[simp] theorem State.leaveIdMode_trace : s.leaveIdMode.trace = s.trace := rfl
@[simp] theorem State.leaveIdMode_result : s.leaveIdMode.result = s.result := rfl
@[simp] theorem State.leaveIdMode_periph : s.leaveIdMode.periph = s.periph := rfl
@[simp] theorem State.leaveIdMode_draws : s.leaveIdMode.draws = s.draws := rfl
@[simp] theorem State.leaveIdMode_inbox : s.leaveIdMode.inbox = s.inbox := rfl

/-! `setIdMode` -/

@[simp] theorem State.setIdMode_cfg (b : Bool) : (s.setIdMode b).cfg = s.cfg := rfl
@[simp] theorem State.setIdMode_life (b : Bool) : (s.setIdMode b).life = s.life := rfl
@[simp] theorem State.setIdMode_latch (b : Bool) : (s.setIdMode b).latch = s.latch := rfl
@[simp] theorem State.setIdMode_raster (b : Bool) : (s.setIdMode b).raster = s.raster := rfl
@[simp] theorem State.setIdMode_flash (b : Bool) : (s.setIdMode b).flash = { s.flash with idMode := b, cycle := .idle } := rfl
@[simp] theorem State.setIdMode_modified (b : Bool) : (s.setIdMode b).modified = s.modified := rfl
@[simp] theorem State.setIdMode_mems (b : Bool) : (s.setIdMode b).mems = s.mems := rfl
@[simp] theorem State.setIdMode_video (b : Bool) : (s.setIdMode b).video = s.video := rfl
@[simp] theorem State.setIdMode_trace (b : Bool) : (s.setIdMode b).trace = s.trace := rfl
@[simp] theorem State.setIdMode_result (b : Bool) : (s.setIdMode b).result = s.result := rfl
@[simp] theorem State.setIdMode_periph (b : Bool) : (s.setIdMode b).periph = s.periph := rfl
@[simp] theorem State.setIdMode_draws (b : Bool) : (s.setIdMode b).draws = s.draws := rfl
@[simp] theorem State.setIdMode_inbox (b : Bool) : (s.setIdMode b).inbox = s.inbox := rfl

/-! `flashCommit` -/

@[simp] theorem State.flashCommit_cfg (n : Nat) : (s.flashCommit n).cfg = s.cfg := rfl
@[simp] theorem State.flashCommit_life (n : Nat) : (s.flashCommit n).life = s.life := rfl
@[simp] theorem State.flashCommit_latch (n : Nat) : (s.flashCommit n).latch = s.latch := rfl
@[simp] theorem State.flashCommit_raster (n : Nat) : (s.flashCommit n).raster = s.raster := rfl
@[simp] theorem State.flashCommit_flash (n : Nat) : (s.flashCommit n).flash = { s.flash with busy := n, cycle := .idle } := rfl
@[simp] theorem State.flashCommit_modified (n : Nat) : (s.flashCommit n).modified = true := rfl
@[simp] theorem State.flashCommit_mems (n : Nat) : (s.flashCommit n).mems = s.mems := rfl
@[simp] theorem State.flashCommit_video (n : Nat) : (s.flashCommit n).video = s.video := rfl
@[simp] theorem State.flashCommit_trace (n : Nat) : (s.flashCommit n).trace = s.trace := rfl
@[simp] theorem State.flashCommit_result (n : Nat) : (s.flashCommit n).result = s.result := rfl
@[simp] theorem State.flashCommit_periph (n : Nat) : (s.flashCommit n).periph = s.periph := rfl
@[simp] theorem State.flashCommit_draws (n : Nat) : (s.flashCommit n).draws = s.draws := rfl
@[simp] theorem State.flashCommit_inbox (n : Nat) : (s.flashCommit n).inbox = s.inbox := rfl

/-! `flashFill` -/

@[simp] theorem State.flashFill_cfg (lo n : Nat) : (s.flashFill lo n).cfg = s.cfg := rfl
@[simp] theorem State.flashFill_life (lo n : Nat) : (s.flashFill lo n).life = s.life := rfl
@[simp] theorem State.flashFill_latch (lo n : Nat) : (s.flashFill lo n).latch = s.latch := rfl
@[simp] theorem State.flashFill_raster (lo n : Nat) : (s.flashFill lo n).raster = s.raster := rfl
@[simp] theorem State.flashFill_flash (lo n : Nat) : (s.flashFill lo n).flash = s.flash := rfl
@[simp] theorem State.flashFill_modified (lo n : Nat) : (s.flashFill lo n).modified = s.modified := rfl
@[simp] theorem State.flashFill_mems (lo n : Nat) : (s.flashFill lo n).mems = { s.mems with fstore := Sparse.clear s.mems.fstore lo n } := rfl
@[simp] theorem State.flashFill_video (lo n : Nat) : (s.flashFill lo n).video = s.video := rfl
@[simp] theorem State.flashFill_trace (lo n : Nat) : (s.flashFill lo n).trace = s.trace := rfl
@[simp] theorem State.flashFill_result (lo n : Nat) : (s.flashFill lo n).result = s.result := rfl
@[simp] theorem State.flashFill_periph (lo n : Nat) : (s.flashFill lo n).periph = s.periph := rfl
@[simp] theorem State.flashFill_draws (lo n : Nat) : (s.flashFill lo n).draws = s.draws := rfl
@[simp] theorem State.flashFill_inbox (lo n : Nat) : (s.flashFill lo n).inbox = s.inbox := rfl

/-! `drawLine` -/

@[simp] theorem State.drawLine_cfg (y : Nat) : (s.drawLine y).cfg = s.cfg := rfl
@[simp] theorem State.drawLine_life (y : Nat) : (s.drawLine y).life = s.life := rfl
@[simp] theorem State.drawLine_latch (y : Nat) : (s.drawLine y).latch = s.latch := rfl
@[simp] theorem State.drawLine_raster (y : Nat) : (s.drawLine y).raster = s.raster := rfl
@[simp] theorem State.drawLine_flash (y : Nat) : (s.drawLine y).flash = s.flash := rfl
@[simp] theorem State.drawLine_modified (y : Nat) : (s.drawLine y).modified = s.modified := rfl
@[simp] theorem State.drawLine_mems (y : Nat) : (s.drawLine y).mems = s.mems := rfl
@[simp] theorem State.drawLine_video (y : Nat) : (s.drawLine y).video = { s.video with frame := Sparse.set lineFill s.video.frame y (s.renderedLine y) } := rfl
@[simp] theorem State.drawLine_trace (y : Nat) : (s.drawLine y).trace = s.trace := rfl
@[simp] theorem State.drawLine_result (y : Nat) : (s.drawLine y).result = s.result := rfl
@[simp] theorem State.drawLine_periph (y : Nat) : (s.drawLine y).periph = s.periph := rfl
@[simp] theorem State.drawLine_draws (y : Nat) : (s.drawLine y).draws = s.draws := rfl
@[simp] theorem State.drawLine_inbox (y : Nat) : (s.drawLine y).inbox = s.inbox := rfl

/-! `presentFrame` -/

@[simp] theorem State.presentFrame_cfg : s.presentFrame.cfg = s.cfg := rfl
@[simp] theorem State.presentFrame_life : s.presentFrame.life = s.life := rfl
@[simp] theorem State.presentFrame_latch : s.presentFrame.latch = s.latch := rfl
@[simp] theorem State.presentFrame_raster : s.presentFrame.raster = s.raster := rfl
@[simp] theorem State.presentFrame_flash : s.presentFrame.flash = s.flash := rfl
@[simp] theorem State.presentFrame_modified : s.presentFrame.modified = s.modified := rfl
@[simp] theorem State.presentFrame_mems : s.presentFrame.mems = s.mems := rfl
@[simp] theorem State.presentFrame_video : s.presentFrame.video = { s.video with host := s.presentRows, prev := s.video.frame } := rfl
@[simp] theorem State.presentFrame_trace : s.presentFrame.trace = s.trace := rfl
@[simp] theorem State.presentFrame_result : s.presentFrame.result = s.result := rfl
@[simp] theorem State.presentFrame_periph : s.presentFrame.periph = s.periph := rfl
@[simp] theorem State.presentFrame_draws : s.presentFrame.draws = s.draws := rfl
@[simp] theorem State.presentFrame_inbox : s.presentFrame.inbox = s.inbox := rfl

end Sys2Proof.Machine
end

