-- ==== Sys2Proof/Laws/Ops.lean ====
section
/-! SUPPORT. For each shared operation, once, everything it can do: when it answers, what it writes, what it leaves. -/

namespace Sys2Proof.Machine

variable {s t u : State} {b : Buffer} {off : Nat} {v : Byte} {a : Addr}

/-! ## Configurations -/

theorem Timing.ok_iff {overlay : Bool} {t : Timing} : Timing.ok overlay t = true ↔ Timing.Ok overlay t := by
  simp only [Timing.ok, decide_eq_true_eq]

/-- The table that `TV` selects meets the constraints (00 R7, R9). -/
theorem timing_ok {c : Config} (h : c.TimingOk) : Timing.Ok c.overlay c.timing := by
  unfold Config.timing
  split
  · exact Timing.ok_iff.1 h.1
  · exact Timing.ok_iff.1 h.2

/-! ## Preconditions -/

theorem whenLive_next : s.whenLive t = .next u ↔ s.life = .live ∧ u = t := by
  unfold State.whenLive
  cases s.life <;> simp [eq_comm]

theorem whenLive_of_live (h : s.life = .live) : s.whenLive t = .next t := by simp [State.whenLive, h]

theorem whenFlash_next : s.whenFlash t = .next u ↔ s.life = .live ∧ s.cfg.hasFlash = true ∧ u = t := by
  unfold State.whenFlash
  cases s.life <;> simp
  cases s.cfg.hasFlash <;> simp [eq_comm]

theorem whenFlash_of_flash (h : s.life = .live) (hf : s.cfg.hasFlash = true) : s.whenFlash t = .next t := by
  simp [State.whenFlash, h, hf]

/-! ## Buffers -/

/-- Replacing one buffer replaces that buffer and no other. -/
theorem mem_putMem (c : Buffer) (x : Memory) :
    State.mem { s with mems := putMem s.mems b x } c = if b = c then x else s.mem c := by
  cases b <;> cases c <;> rfl

theorem mem_poke (c : Buffer) :
    (s.poke b off v).mem c = if b = c then Sparse.set (fillOf s.cfg b) (s.mem b) off v else s.mem c :=
  mem_putMem c _

/-- What a read of a buffer depends on. -/
theorem peek_congr (hc : t.cfg = s.cfg) (hm : t.mems = s.mems) (b : Buffer) (off : Nat) : t.peek b off = s.peek b off := by
  cases b <;> simp [State.peek, State.mem, hc, hm]

/-- A stored byte is read back and no other byte of any buffer changes. -/
theorem peek_poke (h : (s.mem b).Pairwise (fun p q => p.1 < q.1)) (c : Buffer) (k : Nat) :
    (s.poke b off v).peek c k = if c = b ∧ k = off then v else s.peek c k := by
  unfold State.peek
  rw [mem_poke, State.poke_cfg]
  by_cases e : b = c
  · subst e
    simp only [if_true, true_and]
    rw [Sparse.get_set h]
    simp only [eq_comm]
  · simp [e, Ne.symm e]

theorem peek_poke_other (c : Buffer) (k : Nat) (h : c ≠ b ∨ k ≠ off) : (s.poke b off v).peek c k = s.peek c k := by
  unfold State.peek
  rw [mem_poke, State.poke_cfg]
  by_cases e : b = c
  · subst e
    simp only [if_true]
    exact Sparse.get_set_other (by rcases h with h | h <;> [exact absurd rfl h; exact Ne.symm h])
  · simp [e]

/-- A store inside a buffer keeps every buffer in canonical form. -/
theorem bufferOk_poke (h : ∀ c, BufferOk s.cfg c (s.mem c)) (hoff : off < bufferSize s.cfg b)
    (hx : b = .ext → s.cfg.extrom = true) (hf : b = .fstore → s.cfg.hasFlash = true) (c : Buffer) :
    BufferOk s.cfg c ((s.poke b off v).mem c) := by
  rw [mem_poke]
  split
  · next e =>
    subst e
    refine ⟨Sparse.wf_set (h b).1 hoff, fun hb => ?_, fun hb => ?_⟩
    · simp [hf hb.1] at hb
    · simp [hx hb.1] at hb
  · exact h c

/-- Clearing part of the flash store gives the fill there and leaves every other byte of every buffer alone. -/
theorem peek_flashFill (lo n : Nat) (c : Buffer) (k : Nat) :
    (s.flashFill lo n).peek c k = if c = .fstore ∧ lo ≤ k ∧ k < lo + n then fillRom else s.peek c k := by
  cases c <;> simp [State.peek, State.mem, Sparse.get_clear, fillOf]

/-- A byte stored where the PCG buffer can be written keeps that it differs from its fill only there. -/
theorem pcgOk_poke (h : PcgOk s.cfg s.mems.pcg) (hw : b = .pcg → pcgWritable s.cfg off = true) :
    PcgOk s.cfg (s.poke b off v).mems.pcg := by
  cases b
  case pcg =>
    intro p hp
    rcases Sparse.mem_set hp with ⟨rfl, -⟩ | hp
    · exact hw rfl
    · exact h p hp
  all_goals exact h

/-- No erase is under way: nothing is asked of the store. -/
theorem storeOk_of_le {c : Config} {f : FlashRegs} {m : Memory} (h : f.busy ≤ busyProgram) : StoreOk c f m :=
  ⟨fun x => absurd x (by unfold busyProgram busySector at *; omega), fun x => absurd x (by omega)⟩

/-- A status read keeps what an erase under way says of the store. -/
theorem storeOk_count {c : Config} {f g : FlashRegs} {m : Memory} (h : StoreOk c f m) (hg : g.busy ≤ f.busy) : StoreOk c g m :=
  ⟨fun x => h.1 (by omega), fun x => h.2 (by omega)⟩

/-- A cleared sector is erased. -/
theorem storeOk_sector {c : Config} {f : FlashRegs} (m : Memory) {n : Nat} (hn : n < c.pages) (hf : f.busy ≤ busySector) :
    StoreOk c f (Sparse.clear m (n * flashSector) flashSector) := by
  refine ⟨fun x => absurd x (by omega), fun _ => ⟨n, hn, fun p hp => ?_⟩⟩
  have h := of_decide_eq_true (List.mem_filter.1 hp).2
  unfold flashSector at h ⊢
  omega

/-! ## Window accesses -/

theorem winWrite_eq : s.winWrite a v = match s.winTarget a with
    | none => s
    | some (b, off) => s.poke b off v := rfl

/-- A window write changes the memories only. -/
theorem winWrite_frame : s.winWrite a v = { s with mems := (s.winWrite a v).mems } := by
  rw [winWrite_eq]
  cases s.winTarget a with
  | none => rfl
  | some p => rfl

/-- A window write never goes to a ROM nor to the flash store (20 R70). -/
theorem winTarget_writable (h : s.winTarget a = some (b, off)) : b = .ram ∨ b = .vram ∨ b = .pcg := by
  unfold State.winTarget at h
  simp only [Option.map_eq_some_iff, Prod.mk.injEq] at h
  obtain ⟨c, hc, rfl, -⟩ := h
  cases hw : (derive s.cfg s.latch (windowIndex a)).wsink <;> simp [hw, WriteSink.buffer] at hc <;> simp [← hc]

theorem winAccess_read (n : Nat) : s.winAccess .read a n = s.answer (.memRead (s.winRead a) n) := rfl
theorem winAccess_write (n : Nat) : s.winAccess (.write v) a n = (s.winWrite a v).answer (.memWrite n) := rfl

/-- What a window read depends on. -/
theorem winRead_congr (hc : t.cfg = s.cfg) (hl : t.latch = s.latch) (hm : t.mems = s.mems) : t.winRead a = s.winRead a := by
  unfold State.winRead
  rw [hc, hl]
  cases (derive s.cfg s.latch (windowIndex a)).rsrc.buffer <;> simp [peek_congr hc hm]

/-! ## Output signals -/

@[simp] theorem sigLevel_withLevel (r : Raster) (g h : Sig) (x : Bool) :
    sigLevel (withLevel r g x) h = if h = g then x else sigLevel r h := by
  cases g <;> cases h <;> rfl

/-- A level that is already there is not driven again. -/
theorem drive_same {g : Sig} {x : Bool} (h : sigLevel s.raster g = x) : s.drive g x = s := by simp [State.drive, h]

/-- A level change sets the flag and appends one record. -/
theorem drive_change {g : Sig} {x : Bool} (h : sigLevel s.raster g ≠ x) (hb : g = .busreq → s.cfg.overlay = true) :
    s.drive g x = { s with raster := withLevel s.raster g x, trace := s.trace ++ [(g, x)] } := by
  have : ¬ (g = .busreq ∧ s.cfg.overlay = false) := fun ⟨e, f⟩ => by simp [hb e] at f
  simp [State.drive, h, this]

/-- The flag after a drive: the value driven, but for the stall of an instance without the overlay. -/
theorem sigLevel_drive (g h : Sig) (x : Bool) : sigLevel (s.drive g x).raster h
    = if h = g ∧ ¬(g = .busreq ∧ s.cfg.overlay = false) then x else sigLevel s.raster h := by
  unfold State.drive
  by_cases e : h = g
  · subst e
    by_cases hb : h = .busreq ∧ s.cfg.overlay = false
    · simp [hb]
    · by_cases hv : sigLevel s.raster h = x
      · simp [hv]
      · simp [hv, hb]
  · split <;> simp [e]

/-- A drive changes the raster group and the trace only. -/
theorem drive_frame (g : Sig) (x : Bool) :
    s.drive g x = { s with raster := (s.drive g x).raster, trace := (s.drive g x).trace } := by
  unfold State.drive
  split <;> rfl

/-- With the overlay, the stall check raises the stall outside the safe window and leaves it alone inside (41 R183). -/
theorem pcgStallCheck_eq (h : s.cfg.overlay = true) : s.pcgStallCheck
    = if s.raster.pcgSafe = false ∧ s.raster.stall = false
      then { s with raster := { s.raster with stall := true }, trace := s.trace ++ [(.busreq, true)] } else s := by
  unfold State.pcgStallCheck
  split
  · next e => rw [drive_change (by simp [sigLevel, e.2]) (fun _ => h)]; rfl
  · rfl

/-- With the overlay, the release lowers the stall if it is up (41 R172, R182). -/
theorem releaseStall_eq (h : s.cfg.overlay = true) : s.releaseStall
    = if s.raster.stall = true
      then { s with raster := { s.raster with stall := false }, trace := s.trace ++ [(.busreq, false)] } else s := by
  unfold State.releaseStall
  split
  · next e => rw [drive_change (by simp [sigLevel, e]) (fun _ => h)]; rfl
  · next e => exact drive_same (by simpa [sigLevel] using e)

/-! ## The latch -/

/-- A port write changes the latch only (40 R139). -/
theorem portWrite_frame (p : Port) : s.portWrite p v = { s with latch := (s.portWrite p v).latch } := by
  have en : ∀ x : State, ∀ b, x.setPcgEn b = { x with latch := (x.setPcgEn b).latch } := fun x b => by
    unfold State.setPcgEn; split <;> rfl
  have bk : ∀ x : State, ∀ k, x.setPcgBank k = { x with latch := (x.setPcgBank k).latch } := fun x k => by
    unfold State.setPcgBank; split <;> rfl
  unfold State.portWrite
  simp only
  split; · rfl
  split; · rfl
  split; · rfl
  split; · rfl
  split
  · unfold State.portMonAll; rw [en]; rfl
  split
  · unfold State.portPcgOpen; rw [bk, en]
  split
  · exact en s false
  split
  · unfold State.setBootPage; split <;> rfl
  split
  · unfold State.setPriority; split <;> rfl
  rfl

/-! ## Flash -/

/-- A flash read changes `BUSY` only, down by one unless it is 0 (42 R212, R213). -/
theorem flashRead_state (fa : Nat) : (s.flashRead fa).1 = { s with flash.busy := s.flash.busy - 1 } := by
  unfold State.flashRead
  split
  · rfl
  · next h =>
    have : s.flash.busy - 1 = s.flash.busy := by omega
    rw [this]
    split <;> rfl

/-- A flash write changes the store, the flash scalars and `MODIFIED` only (42 R210). -/
theorem flashWrite_frame (fa : Nat) : s.flashWrite fa v
    = { s with mems := { s.mems with fstore := (s.flashWrite fa v).mems.fstore }, flash := (s.flashWrite fa v).flash,
               modified := (s.flashWrite fa v).modified } := by
  unfold State.flashWrite
  split
  · rfl
  · simp only
    cases s.flash.cycle <;> simp only
    case programSel => rfl
    all_goals repeat' split
    all_goals rfl

end Sys2Proof.Machine
end

