-- ==== Sys2Proof/Laws/PerInstr.lean ====
section
/-! SUPPORT. Per-instruction family EncodedByAgent: an operation's encoding is presented by the agent of its row of 30 R96. -/

namespace Sys2Proof.Laws

/-- A request that encodes the operation comes from the operation's agent (30 R96, third column). -/
def EncodedByAgent.Statement (i : Instr) : Prop := ∀ c r, encode c i = some r → r.agent = i.agent

/-- A memory access is presented by the CPU. -/
theorem agent_encodeMem (acc : Access) (a : Addr) : (encodeMem acc a).agent = .cpu := by cases acc <;> rfl

theorem EncodedByAgent.memrd (addr : Addr) : EncodedByAgent.Statement (.memrd addr) := by
  rintro c r h; cases h; exact agent_encodeMem _ _
theorem EncodedByAgent.memwr (addr : Addr) (v : Byte) : EncodedByAgent.Statement (.memwr addr v) := by
  rintro c r h; cases h; exact agent_encodeMem _ _
theorem EncodedByAgent.memPcgwin (acc : Access) (addr : Addr) : EncodedByAgent.Statement (.memPcgwin acc addr) := by
  rintro c r h; cases h; exact agent_encodeMem _ _
theorem EncodedByAgent.memMmioPio (acc : Access) (k : BitVec 2) : EncodedByAgent.Statement (.memMmioPio acc k) := by
  rintro c r h; cases h; exact agent_encodeMem _ _
theorem EncodedByAgent.memMmioPit (acc : Access) (k : BitVec 2) : EncodedByAgent.Statement (.memMmioPit acc k) := by
  rintro c r h; cases h; exact agent_encodeMem _ _
theorem EncodedByAgent.memMmioAux (acc : Access) : EncodedByAgent.Statement (.memMmioAux acc) := by
  rintro c r h; cases h; exact agent_encodeMem _ _
theorem EncodedByAgent.memPcgwData (acc : Access) : EncodedByAgent.Statement (.memPcgwData acc) := by
  rintro c r h; cases h; exact agent_encodeMem _ _
theorem EncodedByAgent.memPcgwAddr (acc : Access) : EncodedByAgent.Statement (.memPcgwAddr acc) := by
  rintro c r h; cases h; exact agent_encodeMem _ _
theorem EncodedByAgent.memPcgwCtrl (acc : Access) : EncodedByAgent.Statement (.memPcgwCtrl acc) := by
  rintro c r h; cases h; exact agent_encodeMem _ _
theorem EncodedByAgent.memBootflash (acc : Access) (off : BitVec 12) : EncodedByAgent.Statement (.memBootflash acc off) := by
  rintro c r h; cases h; exact agent_encodeMem _ _
theorem EncodedByAgent.memBootrom (acc : Access) (off : BitVec 12) : EncodedByAgent.Statement (.memBootrom acc off) := by
  rintro c r h; cases h; exact agent_encodeMem _ _
theorem EncodedByAgent.memVram (acc : Access) (off : BitVec 12) : EncodedByAgent.Statement (.memVram acc off) := by
  rintro c r h; cases h; exact agent_encodeMem _ _
theorem EncodedByAgent.memWindow (acc : Access) (addr : Addr) : EncodedByAgent.Statement (.memWindow acc addr) := by
  rintro c r h; cases h; exact agent_encodeMem _ _
theorem EncodedByAgent.iord (port : Port) : EncodedByAgent.Statement (.iord port) := by
  rintro c r h; cases h; rfl
theorem EncodedByAgent.iowr (port : Port) (v : Byte) : EncodedByAgent.Statement (.iowr port v) := by
  rintro c r h; cases h; rfl
theorem EncodedByAgent.outMonlOff : EncodedByAgent.Statement .outMonlOff := by
  rintro c r h; cases h; rfl
theorem EncodedByAgent.outMonhOff : EncodedByAgent.Statement .outMonhOff := by
  rintro c r h; cases h; rfl
theorem EncodedByAgent.outMonlOn : EncodedByAgent.Statement .outMonlOn := by
  rintro c r h; cases h; rfl
theorem EncodedByAgent.outMonhOn : EncodedByAgent.Statement .outMonhOn := by
  rintro c r h; cases h; rfl
theorem EncodedByAgent.outMonAll : EncodedByAgent.Statement .outMonAll := by
  rintro c r h; cases h; rfl
theorem EncodedByAgent.outPcgOpen (bank : BitVec 2) : EncodedByAgent.Statement (.outPcgOpen bank) := by
  rintro c r h; cases h; rfl
theorem EncodedByAgent.outPcgClose : EncodedByAgent.Statement .outPcgClose := by
  rintro c r h; cases h; rfl
theorem EncodedByAgent.outBootPage (v : Byte) : EncodedByAgent.Statement (.outBootPage v) := by
  rintro c r h; cases h; rfl
theorem EncodedByAgent.outPriority (p : BitVec 2) : EncodedByAgent.Statement (.outPriority p) := by
  rintro c r h; cases h; rfl
theorem EncodedByAgent.outUndef (port : Port) : EncodedByAgent.Statement (.outUndef port) := by
  rintro c r h; cases h; rfl
theorem EncodedByAgent.frd (fa : Nat) : EncodedByAgent.Statement (.frd fa) := by
  rintro c r h; cases h; rfl
theorem EncodedByAgent.frdStatus (fa : Nat) : EncodedByAgent.Statement (.frdStatus fa) := by
  rintro c r h; cases h; rfl
theorem EncodedByAgent.frdId (fa : Nat) : EncodedByAgent.Statement (.frdId fa) := by
  rintro c r h; cases h; rfl
theorem EncodedByAgent.frdArray (fa : Nat) : EncodedByAgent.Statement (.frdArray fa) := by
  rintro c r h; cases h; rfl
theorem EncodedByAgent.fwr (fa : Nat) (v : Byte) : EncodedByAgent.Statement (.fwr fa v) := by
  rintro c r h; cases h; rfl
theorem EncodedByAgent.fwrBusy (fa : Nat) (v : Byte) : EncodedByAgent.Statement (.fwrBusy fa v) := by
  rintro c r h; cases h; rfl
theorem EncodedByAgent.fUnlock1 : EncodedByAgent.Statement .fUnlock1 := by
  rintro c r h; cases h; rfl
theorem EncodedByAgent.fReset (fa : Nat) : EncodedByAgent.Statement (.fReset fa) := by
  rintro c r h; cases h; rfl
theorem EncodedByAgent.fUnlock2 : EncodedByAgent.Statement .fUnlock2 := by
  rintro c r h; cases h; rfl
theorem EncodedByAgent.fProgramSetup : EncodedByAgent.Statement .fProgramSetup := by
  rintro c r h; cases h; rfl
theorem EncodedByAgent.fEraseSetup : EncodedByAgent.Statement .fEraseSetup := by
  rintro c r h; cases h; rfl
theorem EncodedByAgent.fIdEntry : EncodedByAgent.Statement .fIdEntry := by
  rintro c r h; cases h; rfl
theorem EncodedByAgent.fIdExit : EncodedByAgent.Statement .fIdExit := by
  rintro c r h; cases h; rfl
theorem EncodedByAgent.fProgramData (fa : Nat) (v : Byte) : EncodedByAgent.Statement (.fProgramData fa v) := by
  rintro c r h; cases h; rfl
theorem EncodedByAgent.fEraseUnlock1 : EncodedByAgent.Statement .fEraseUnlock1 := by
  rintro c r h; cases h; rfl
theorem EncodedByAgent.fEraseUnlock2 : EncodedByAgent.Statement .fEraseUnlock2 := by
  rintro c r h; cases h; rfl
theorem EncodedByAgent.fChipErase : EncodedByAgent.Statement .fChipErase := by
  rintro c r h; cases h; rfl
theorem EncodedByAgent.fSectorErase (fa : Nat) : EncodedByAgent.Statement (.fSectorErase fa) := by
  rintro c r h; cases h; rfl
theorem EncodedByAgent.fMismatch (fa : Nat) (v : Byte) : EncodedByAgent.Statement (.fMismatch fa v) := by
  rintro c r h; cases h; rfl
theorem EncodedByAgent.tick : EncodedByAgent.Statement .tick := by
  rintro c r h; cases h; rfl
theorem EncodedByAgent.evNewline : EncodedByAgent.Statement .evNewline := by
  rintro c r ⟨⟩
theorem EncodedByAgent.evHblankS : EncodedByAgent.Statement .evHblankS := by
  rintro c r ⟨⟩
theorem EncodedByAgent.evHblankE : EncodedByAgent.Statement .evHblankE := by
  rintro c r ⟨⟩
theorem EncodedByAgent.evHsyncS : EncodedByAgent.Statement .evHsyncS := by
  rintro c r ⟨⟩
theorem EncodedByAgent.evHsyncE : EncodedByAgent.Statement .evHsyncE := by
  rintro c r ⟨⟩
theorem EncodedByAgent.evPcgwin : EncodedByAgent.Statement .evPcgwin := by
  rintro c r ⟨⟩
theorem EncodedByAgent.tempo : EncodedByAgent.Statement .tempo := by
  rintro c r h; cases h; rfl
theorem EncodedByAgent.blink : EncodedByAgent.Statement .blink := by
  rintro c r h; cases h; rfl
theorem EncodedByAgent.renderLine (y : Nat) : EncodedByAgent.Statement (.renderLine y) := by
  rintro c r ⟨⟩
theorem EncodedByAgent.present : EncodedByAgent.Statement .present := by
  rintro c r h; cases h; rfl
theorem EncodedByAgent.initCore (cfg : Config) (images : Images) : EncodedByAgent.Statement (.initCore cfg images) := by
  rintro c r h; cases h; rfl
theorem EncodedByAgent.reset : EncodedByAgent.Statement .reset := by
  rintro c r h; cases h; rfl
theorem EncodedByAgent.snapSave : EncodedByAgent.Statement .snapSave := by
  rintro c r h; cases h; rfl
theorem EncodedByAgent.snapLoad (snap : Snapshot) : EncodedByAgent.Statement (.snapLoad snap) := by
  rintro c r h; cases h; rfl
theorem EncodedByAgent.release : EncodedByAgent.Statement .release := by
  rintro c r h; cases h; rfl

end Sys2Proof.Laws
end

