-- ==== Sys2Proof/Laws/Step.lean ====
section
/-! SUPPORT. What performing a request is, in terms of the carriers' meanings: one equation per kind of request, so that a proof
about every step has one case per request and not one per operation. -/

namespace Sys2Proof.Machine

variable {s t : State} {a : Addr} {v : Byte}

/-! ## Decoded operations and their carriers -/

/-- What a memory access is decoded to has the meaning of the access. -/
theorem exec_memOp (acc : Access) : exec (memOp s.context acc a) s = s.whenLive (s.memAccess acc a) := by
  unfold memOp State.memAccess State.context
  simp only
  by_cases h1 : inPcgWin s.cfg s.latch a = true
  · simp only [h1, if_true]
    rfl
  simp only [h1]
  cases intercepted s.cfg s.latch a with
  | some k => cases k <;> rfl
  | none =>
    simp only
    by_cases h2 : inBoot s.latch a = true
    · simp only [h2, if_true]
      by_cases hf : s.cfg.hasFlash = true
      · simp only [hf, if_true]
        show execMemBootflash _ _ _ = _
        unfold execMemBootflash State.whenFlash State.whenLive
        cases s.life <;> simp [hf]
      · simp only [hf]
        rfl
    · simp only [h2]
      by_cases h3 : inVram s.cfg s.latch a = true
      · simp only [h3, if_true]
        rfl
      · simp only [h3]
        rfl

/-- What a port write is decoded to has the meaning of the port write. -/
theorem exec_portOp (p : Port) : exec (portOp s.cfg p v) s = s.whenLive ((s.portWrite p v).answer .done) := by
  unfold portOp State.portWrite
  simp only
  split_ifs <;> rfl

/-- What a flash read is decoded to has the meaning of the flash read. -/
theorem exec_frdOp (fa : Nat) :
    exec (frdOp s.context fa) s = s.whenFlash ((s.flashRead fa).1.answer (.byte (s.flashRead fa).2)) := by
  unfold frdOp State.flashRead State.context
  have e : decide (fa ≤ 1) = decide (fa = 0 ∨ fa = 1) := by
    simp only [decide_eq_decide]
    omega
  simp only [e]
  split_ifs <;> rfl

/-- What a flash write is decoded to has the meaning of the flash write. -/
theorem exec_fwrOp (fa : Nat) : exec (fwrOp s.context fa v) s = s.whenFlash ((s.flashWrite fa v).answer .done) := by
  unfold fwrOp State.flashWrite State.context
  simp only
  by_cases hb : 0 < s.flash.busy
  · simp only [hb, if_true]
    rfl
  simp only [hb, if_false]
  cases s.flash.cycle <;> simp only <;> first | rfl | (split_ifs <;> rfl)

/-! ## Requests -/

/-- A bus transaction, by its kind (30 R91). -/
theorem perform_bus (tc : BitVec 26) : perform (.bus tc) s = s.whenLive (match (tcKind tc).toNat with
    | 0 => s.memAccess .read (tcAddr tc)
    | 1 => s.memAccess (.write (tcData tc)) (tcAddr tc)
    | 2 => s.answer (.byte 0xFF)
    | _ => (s.portWrite (tcPort tc) (tcData tc)).answer .done) := by
  unfold perform decode
  simp only
  have : (tcKind tc).toNat < 4 := (tcKind tc).isLt
  generalize (tcKind tc).toNat = n at this
  rcases n with _ | _ | _ | _ | n
  · exact exec_memOp _
  · exact exec_memOp _
  · rfl
  · exact exec_portOp _
  · omega

theorem perform_flashRd (fa : Nat) (hf : s.cfg.hasFlash = true) : perform (.flashRd fa) s
    = s.whenFlash ((s.flashRead (maskFa s.cfg fa)).1.answer (.byte (s.flashRead (maskFa s.cfg fa)).2)) := by
  unfold perform decode
  have : s.context.cfg.hasFlash = true := hf
  simp only [this, if_true]
  exact exec_frdOp _

theorem perform_flashWr (fa : Nat) (hf : s.cfg.hasFlash = true) :
    perform (.flashWr fa v) s = s.whenFlash ((s.flashWrite (maskFa s.cfg fa) v).answer .done) := by
  unfold perform decode
  have : s.context.cfg.hasFlash = true := hf
  simp only [this, if_true]
  exact exec_fwrOp _

/-- Without a flash its requests are refused. -/
theorem perform_noFlash (hf : s.cfg.hasFlash = false) (fa : Nat) :
    perform (.flashRd fa) s = .refused .flashAbsent ∧ perform (.flashWr fa v) s = .refused .flashAbsent := by
  have : s.context.cfg.hasFlash = false := hf
  constructor <;> simp [perform, decode, this]

theorem perform_tick : perform .tick s = s.whenLive (s.tick.answer .done) := rfl
theorem perform_tempo : perform .tempo s = s.whenLive ((s.drive .tempo (!s.raster.tempo)).answer .done) := rfl
theorem perform_blink : perform .blink s = s.whenLive ((s.drive .blink (!s.raster.blink)).answer .done) := rfl
theorem perform_present : perform .present s = s.whenLive (s.presentFrame.answer .done) := rfl
theorem perform_reset : perform .reset s = s.whenLive (s.resetCore.answer .done) := rfl
theorem perform_snapSave : perform .snapSave s = s.whenLive (s.answer (.saved s.snapshot)) := rfl
theorem perform_malformed (n w : Nat) : perform (.malformed n w) s = .refused .noSuchCode := rfl

/-- INITIALIZE answers on an unborn instance with a configuration within 00 R7 (60 R336). -/
theorem perform_initCore (c : Config) (im : Images) :
    perform (.initCore c im) s = .next t ↔ s.life = .unborn ∧ c.Ok ∧ t = (initState c im s).answer .done := by
  show execInitCore c im s = .next t ↔ _
  unfold execInitCore
  cases s.life with
  | unborn =>
    simp only [true_and]
    by_cases h : c.Ok
    · rw [if_pos h, Host.Outcome.next.injEq]
      exact ⟨fun e => ⟨h, e.symm⟩, fun e => e.2.symm⟩
    · rw [if_neg h]
      exact ⟨fun e => (nomatch e), fun e => absurd e.1 h⟩
  | live => simp
  | released => simp

/-- SNAP_LOAD answers on a living instance, unless the snapshot is forged (44 R302, 60 R336). -/
theorem perform_snapLoad (p : Snapshot) : perform (.snapLoad p) s = .next t ↔ s.life = .live
    ∧ ((s.tagsMatch p = true ∧ p.wf = true ∧ t = (s.restore p).answer (.loaded true))
      ∨ (s.tagsMatch p = false ∧ t = s.answer (.loaded false))) := by
  show execSnapLoad p s = .next t ↔ _
  unfold execSnapLoad
  cases s.life with
  | live =>
    cases h : s.tagsMatch p
    · simp only [Bool.false_eq_true, if_false, Host.Outcome.next.injEq, false_and, false_or, true_and]
      exact eq_comm
    · cases h' : p.wf
      · simp
      · simp only [if_true, Host.Outcome.next.injEq, true_and, Bool.true_eq_false, false_and, or_false]
        exact eq_comm
  | unborn => simp
  | released => simp

theorem perform_release : perform .release s = s.whenLive { s with
    life := .released
    result := .image (if s.cfg.hasFlash && s.modified then some s.flashImage else none) } := rfl

/-- A step with a request performs it on the rest. -/
theorem step_cons {r : Request} {rest : List Request} (h : s.inbox = r :: rest) :
    step s = perform r { s with inbox := rest } := by
  simp [step, h]

/-! ## The raster -/

/-- A new line changes the raster group, the trace and the frame only (41 R172). -/
theorem newline_frame : s.newline
    = { s with raster := s.newline.raster, trace := s.newline.trace, video := { s.video with frame := s.newline.video.frame } } := by
  unfold State.newline
  simp only
  split <;> split <;> (simp [State.releaseStall, State.drawLine]; repeat rw [drive_frame])

end Sys2Proof.Machine
end

