-- ==== Sys2Proof/Tests/Slice0.lean ====
section
/-! SUPPORT. Tests: well-formedness, one written-out word per operation, one step per operation against
95_test_vectors.md, and a witness for the hypotheses of every statement. -/

open Sys2Proof Sys2Proof.Machine Sys2Proof.Claims

namespace Sys2Proof.Tests

/-! ## Small states -/

/-- A live machine with nothing in its memories. -/
def st (c : Config) (l : Latch) (r : Raster) (f : FlashRegs) : State :=
  { State.reset with cfg := c, latch := l, raster := r, flash := f }

/-- A latch with the given `MODE` and `PCG_BANK`. -/
def lat (mode : BitVec 3) (bank : BitVec 2) : Latch := { Latch.powerOn with mode := mode, pcgBank := bank }

/-- The raster group at clock `h` of line `l` by 41 R186, no stall. -/
def ras (c : Config) (l h : Nat) : Raster :=
  { Raster.powerOn with
    line := l, hcnt := h, hblank := hblankAt c.timing h, hsync := hsyncAt c.timing h, vblank := vblankAt l,
    vsync := vsyncAt c.timing l, blankVram := blankVramAt c.timing h, pcgSafe := pcgSafeAt c h }

/-- Flash registers in a cycle state with nothing busy. -/
def fl (k : Cycle) : FlashRegs := { FlashRegs.powerOn with cycle := k }

/-- A byte image that is `00` but for a few bytes is listed where it differs from the fill: the tests list what they use. -/
def withRom (s : State) (ipl cg ext : Memory) : State :=
  { s with mems := { s.mems with ipl := ipl, cgrom := cg, ext := ext } }

/-- CFG-A of 95_test_vectors.md section 0. -/
def sA (mode : BitVec 3) (bank : BitVec 2) : State :=
  withRom (st .reference (lat mode bank) .powerOn .powerOn) [] [(0x001, 0x81), (0x008, 0x18), (0x801, 0x00)] []

/-- CFG-B of the same section. -/
def sB (mode : BitVec 3) : State :=
  withRom (st .plain700 (lat mode 0) .powerOn .powerOn) [(0x000, 0xC3), (0xFFF, 0x76)]
    [(0x008, 0x18), (0x209, 0x24), (0xA0B, 0x3C)] [(0x0000, 0xE8), (0x17FF, 0x99)]

/-- CFG-C of the same section. -/
def sC (pcgData pcgAddr pcgCtrl : Byte) : State :=
  withRom (st .board700 { Latch.powerOn with pcgData := pcgData, pcgAddr := pcgAddr, pcgCtrl := pcgCtrl } .powerOn
    .powerOn) [] [(0x410, 0x99)] []

/-- A flash in a cycle state over a store that lists two bytes. -/
def sF (k : Cycle) : State :=
  { st .reference .powerOn .powerOn (fl k) with
    mems := { Memories.filled with fstore := [(0x2FFF, 0x00), (0x3000, 0x12)] } }

/-- A flash that counts down. -/
def sBusy (n : Nat) : State :=
  { st .reference .powerOn .powerOn { FlashRegs.powerOn with busy := n } with
    mems := { Memories.filled with fstore := [(0x1234, 0x5A)] } }

/-- The next state of an operation. -/
def after (i : Instr) (s : State) : Option State :=
  match exec i s with
  | .next t => some t
  | .fault _ => none
  | .refused _ => none

/-- What an operation returns. -/
def out (i : Instr) (s : State) : Option Result := (after i s).map (·.result)

/-- A byte of a buffer after an operation. -/
def byteAfter (i : Instr) (s : State) (b : Buffer) (k : Nat) : Option Byte := (after i s).map (·.peek b k)

/-- What an operation appended to an empty trace. -/
def signals (i : Instr) (s : State) : Option (List (Sig × Bool)) := (after i s).map (·.trace)

/-! ## Ill-formed operands, one for each check of `Instr.wf` -/

theorem test_wf_pcgwin : Instr.wf .reference (.memPcgwin .read 0xCFFF) = false
    ∧ Instr.wf .reference (.memPcgwin .read 0xF000) = false ∧ Instr.wf .reference (.memPcgwin .read 0xEFFF) = true := by decide
theorem test_wf_outUndef : Instr.wf .reference (.outUndef 0xE5) = false ∧ Instr.wf .plain700 (.outUndef 0xE5) = true := by
  decide
theorem test_wf_flash_reads : Instr.wf .reference (.frd 0x20000) = false
    ∧ Instr.wf .reference (.frdStatus 0x20000) = false ∧ Instr.wf .reference (.frdArray 0x20000) = false
    ∧ Instr.wf .reference (.fReset 0x20000) = false ∧ Instr.wf .reference (.fSectorErase 0x20000) = false
    ∧ Instr.wf .reference (.frd 0x1FFFF) = true := by decide
theorem test_wf_flash_writes : Instr.wf .reference (.fwr 0x20000 0) = false
    ∧ Instr.wf .reference (.fwrBusy 0x20000 0) = false ∧ Instr.wf .reference (.fProgramData 0x20000 0) = false
    ∧ Instr.wf .reference (.fMismatch 0x20000 0) = false := by decide
theorem test_wf_frdId : Instr.wf .reference (.frdId 2) = false ∧ Instr.wf .reference (.frdId 1) = true := by decide
theorem test_wf_renderLine : Instr.wf .reference (.renderLine 200) = false ∧ Instr.wf .reference (.renderLine 199) = true := by
  decide
theorem test_wf_initCore : Instr.wf .reference (.initCore { Config.reference with iplSize := 2048 } .absent) = false
    ∧ Instr.wf .reference (.initCore .board700 .absent) = true := by decide
theorem test_wf_snapLoad :
    Instr.wf .reference (.snapLoad { State.reset.snapshot with timing.hcnt := 228 }) = false := by decide

/-- Bodies that no SNAP_SAVE produces: a chip erase under way over a store that is not erased, a sector erase with no erased
sector, a pattern byte where nothing writes one, a page above a data byte. -/
theorem test_wf_snapshot_bodies :
    ({ State.reset.snapshot with flash := ⟨.idle, 20000, false⟩, fstore := [(0, 0x12)] } : Snapshot).wf = false
      ∧ ({ State.reset.snapshot with flash := ⟨.idle, 20000, false⟩ } : Snapshot).wf = true
      ∧ ({ State.reset.snapshot with flash := ⟨.idle, 5000, true⟩, fstore := [(0, 0x12)] } : Snapshot).wf = true
      ∧ ({ State.reset.snapshot with
            flash := ⟨.idle, 5000, false⟩, fstore := (List.range 32).map (fun n => (n * 4096, 0x12)) } : Snapshot).wf = false
      ∧ ({ State.reset.snapshot with identity := .plain700, pcg := [(0, 1)] } : Snapshot).wf = false
      ∧ ({ State.reset.snapshot with identity := .board700, pcg := [(0, 1), (0x7FF, 1)] } : Snapshot).wf = true
      ∧ ({ State.reset.snapshot with
            identity := { Config.reference with flashSize := 0x200000 }, latch.bootPage := 256 } : Snapshot).wf = false := by
  decide

/-! ## Words written out from 30 R91, R94, one for each operation that has one

`kind(2) addr(16) data(8)`; the flash words are `fa[14:0] data(8)`. -/

/-- The operation of a transaction code in a latch state. -/
def busOp (s : State) (tc : BitVec 26) : Option Instr := (decode s.context (.bus tc)).toOption
/-- The carrier of a transaction code. -/
def busCarrier (tc : BitVec 26) : Option Instr := (carrier .reference (.bus tc)).toOption
/-- The operation of a flash write by its comparison code. -/
def flashOp (s : State) (fc : Nat) : Option Instr :=
  (decode s.context (.flashWr (fc / 256) (BitVec.ofNat 8 fc))).toOption

theorem test_decode_carriers :
    busCarrier 0b00_0000111111111111_00000000 = some (.memrd 0x0FFF)
      ∧ busCarrier 0b01_0001000000000000_10100101 = some (.memwr 0x1000 0xA5)
      ∧ busCarrier 0b10_0001001011100100_00000000 = some (.iord 0xE4)
      ∧ busCarrier 0b11_0000000011100101_11111110 = some (.iowr 0xE5 0xFE)
      ∧ (carrier .reference (.flashRd 0x21234)).toOption = some (.frd 0x1234)
      ∧ (carrier .reference (.flashWr 0x1234 0x5A)).toOption = some (.fwr 0x1234 0x5A)
      ∧ (carrier .plain700 (.flashRd 0)).toOption = none := by decide

theorem test_decode_mem :
    busOp (sA 0b111 1) 0b01_1101000000000000_11111111 = some (.memPcgwin (.write 0xFF) 0xD000)
      ∧ busOp (sA 0b011 0) 0b00_1110000000000010_00000000 = some (.memMmioPio .read 2)
      ∧ busOp (sA 0b011 0) 0b01_1110000000000111_01110100 = some (.memMmioPit (.write 0x74) 3)
      ∧ busOp (sA 0b011 0) 0b00_1110000000001000_00000000 = some (.memMmioAux .read)
      ∧ busOp (sC 0 0 0) 0b01_1110000000010000_11111111 = some (.memPcgwData (.write 0xFF))
      ∧ busOp (sC 0 0 0) 0b01_1110000000010001_00001001 = some (.memPcgwAddr (.write 9))
      ∧ busOp (sC 0 0 0) 0b01_1110000000010010_00010111 = some (.memPcgwCtrl (.write 0x17))
      ∧ busOp (sA 0b011 0) 0b01_0000010101010101_10101010 = some (.memBootflash (.write 0xAA) 0x555)
      ∧ busOp (sB 0b011) 0b00_0000111111111111_00000000 = some (.memBootrom .read 0xFFF)
      ∧ busOp (sB 0b011) 0b00_1101100000000000_00000000 = some (.memVram .read 0x800)
      ∧ busOp (sB 0b011) 0b01_1110011111111111_00010001 = some (.memWindow (.write 0x11) 0xE7FF)
      ∧ busOp (sB 0b001) 0b01_1110000000000000_01010101 = some (.memWindow (.write 0x55) 0xE000) := by decide

theorem test_decode_ports :
    busOp (sA 0b011 0) 0b10_0000000000000000_00000000 = some (.iord 0)
      ∧ busOp (sA 0b011 0) 0b11_0001001011100000_00000000 = some .outMonlOff
      ∧ busOp (sA 0b011 0) 0b11_0000000011100001_11111111 = some .outMonhOff
      ∧ busOp (sA 0b011 0) 0b11_0000000011100010_00000000 = some .outMonlOn
      ∧ busOp (sA 0b011 0) 0b11_0000000011100011_00000000 = some .outMonhOn
      ∧ busOp (sA 0b011 0) 0b11_0000000011100100_00000000 = some .outMonAll
      ∧ busOp (sA 0b011 0) 0b11_0000000011100101_11111110 = some (.outPcgOpen 2)
      ∧ busOp (sA 0b011 0) 0b11_0000000011100110_00000000 = some .outPcgClose
      ∧ busOp (sA 0b011 0) 0b11_0000000011101001_00100101 = some (.outBootPage 0x25)
      ∧ busOp (sA 0b011 0) 0b11_0000000011110000_00000111 = some (.outPriority 3)
      ∧ busOp (sA 0b011 0) 0b11_0000000000000000_11111111 = some (.outUndef 0)
      ∧ busOp (sB 0b011) 0b11_0000000011100101_00000001 = some (.outUndef 0xE5) := by decide

theorem test_decode_flash_writes :
    flashOp (sF .idle) 0b101010101010101_10101010 = some .fUnlock1
      ∧ flashOp (sF .idle) 0b010001101000101_11110000 = some (.fReset 0x2345)
      ∧ flashOp (sF .unlock1) 0b010101010101010_01010101 = some .fUnlock2
      ∧ flashOp (sF .unlock2) 0b101010101010101_10100000 = some .fProgramSetup
      ∧ flashOp (sF .unlock2) 0b101010101010101_10000000 = some .fEraseSetup
      ∧ flashOp (sF .unlock2) 0b101010101010101_10010000 = some .fIdEntry
      ∧ flashOp (sF .unlock2) 0b101010101010101_11110000 = some .fIdExit
      ∧ flashOp (sF .programSel) 0b101010101010101_10101010 = some (.fProgramData 0x5555 0xAA)
      ∧ flashOp (sF .eraseSel) 0b101010101010101_10101010 = some .fEraseUnlock1
      ∧ flashOp (sF .eraseUnlock1) 0b010101010101010_01010101 = some .fEraseUnlock2
      ∧ flashOp (sF .eraseUnlock2) 0b101010101010101_00010000 = some .fChipErase
      ∧ flashOp (sF .eraseUnlock2) 0b101010101010101_00110000 = some (.fSectorErase 0x5555)
      ∧ flashOp (sF .unlock2) 0b101010101010100_10100000 = some (.fMismatch 0x5554 0xA0)
      ∧ flashOp (sBusy 4) 0b101010101010101_10101010 = some (.fwrBusy 0x5555 0xAA) := by decide

theorem test_decode_flash_reads :
    (decode (sBusy 1).context (.flashRd 0x1FFFF)).toOption = some (.frdStatus 0x1FFFF)
      ∧ (decode { (sF .idle).context with flash.idMode := true } (.flashRd 1)).toOption = some (.frdId 1)
      ∧ (decode { (sF .idle).context with flash.idMode := true } (.flashRd 0x8000)).toOption = some (.frdArray 0x8000) := by
  decide

theorem test_decode_named_calls :
    (decode (sA 0b011 0).context .tick).toOption = some .tick
      ∧ (decode (sA 0b011 0).context .tempo).toOption = some .tempo
      ∧ (decode (sA 0b011 0).context .blink).toOption = some .blink
      ∧ (decode (sA 0b011 0).context .present).toOption = some .present
      ∧ (decode (sA 0b011 0).context .reset).toOption = some .reset
      ∧ (decode (sA 0b011 0).context .snapSave).toOption = some .snapSave
      ∧ (decode (sA 0b011 0).context .release).toOption = some .release
      ∧ (decode (sA 0b011 0).context (.initCore .plain700 .absent)).toOption = some (.initCore .plain700 .absent)
      ∧ (decode (sA 0b011 0).context (.snapLoad (sB 0b011).snapshot)).toOption = some (.snapLoad (sB 0b011).snapshot)
      ∧ (decode (sA 0b011 0).context (.malformed 27 0)).toOption = none := by decide

/-- 41 R170, 43 R260: the core's own events have no encoding. -/
theorem test_events_have_no_encoding :
    encode .reference .evNewline = none ∧ encode .reference .evHblankS = none ∧ encode .reference .evHblankE = none
      ∧ encode .reference .evHsyncS = none ∧ encode .reference .evHsyncE = none ∧ encode .reference .evPcgwin = none
      ∧ encode .reference (.renderLine 0) = none := by decide

theorem test_decodeTableWord :
    decodeTableWord 32 0x0E00400 = some (.memMmioPit .read 0) ∧ decodeTableWord 32 0x1E01217 = some (.memPcgwCtrl (.write 0x17))
      ∧ decodeTableWord 32 0x300E403 = some .outMonAll ∧ decodeTableWord 24 0x5555AA = some .fUnlock1
      ∧ decodeTableWord 24 0x555510 = some .fChipErase ∧ decodeTableWord 24 0x000030 = some (.fSectorErase 0)
      ∧ decodeTableWord 32 0x4000000 = none ∧ decodeTableWord 40 0 = none := by decide

/-- The step right after `withFetchWord` performs the word: OUT_MONL_OFF, and F_ERASE_SETUP in its cycle state. -/
theorem test_withFetchWord :
    (match step (State.reset.withFetchWord 32 0x300E000) with
      | .next t => some (t.latch.mode, t.inbox)
      | _ => none) = some (0b010, [])
    ∧ (match step (State.reset.withFetchWord 24 0x555580) with
      | .next t => some t.flash.cycle
      | _ => none) = some .eraseSel := by decide

/-! ## One step each, expected values from 95_test_vectors.md (the vector's number in the comment) -/

/-- V1.3 on `MEMWR`, `MEMRD` at the first RAM address. -/
theorem test_memwr_ram : byteAfter (.memwr 0x1000 0xA5) (sB 0b011) .ram 0x1000 = some 0xA5
    ∧ out (.memwr 0x1000 0xA5) (sB 0b011) = some (.memWrite 0) := by decide
/-- V1.4: the write to the boot ROM is dropped and costs 1. -/
theorem test_memwr_rom_dropped : byteAfter (.memwr 0 0x12) (sB 0b011) .ipl 0 = some 0xC3
    ∧ byteAfter (.memwr 0 0x12) (sB 0b011) .ram 0 = some 0 ∧ out (.memwr 0 0x12) (sB 0b011) = some (.memWrite 1) := by decide
/-- V1.2, V1.5, V1.7, V1.9. -/
theorem test_memrd_windows : out (.memrd 0x0FFF) (sB 0b011) = some (.memRead 0x76 1)
    ∧ out (.memrd 0x0000) (sB 0b010) = some (.memRead 0 0)
    ∧ out (.memrd 0xD800) (sB 0b011) = some (.memRead 0x71 163)
    ∧ out (.memrd 0xE009) (sB 0b011) = some (.memRead 0xFF 0) := by decide
/-- V1.16, V1.21, V1.24. -/
theorem test_memrd_overlay : out (.memrd 0xE008) (sA 0b111 0) = some (.memRead 0x18 0)
    ∧ out (.memrd 0xF000) (sA 0b111 1) = some (.memRead 0xFF 0)
    ∧ out (.memrd 0x0000) (sA 0b011 0) = some (.memRead 0xFF 0) := by decide
/-- V1.19, V4.14: the third plane window and the stall. -/
theorem test_memPcgwin_write : byteAfter (.memPcgwin (.write 0x0F) 0xE123) (sA 0b111 2) .pcg 0x3123 = some 0x0F
    ∧ signals (.memPcgwin (.write 0x0F) 0xE123) (sA 0b111 2) = some [(.busreq, true)] := by decide
/-- V4.17: no stall in the safe window. -/
theorem test_memPcgwin_safe :
    signals (.memPcgwin .read 0xD001) (st .reference (lat 0b111 1) (ras .reference 0 170) .powerOn) = some [] := by decide
/-- V3.1. -/
theorem test_memMmioPio_read : (after (.memMmioPio .read 0) (sB 0b011)).map (fun t => (t.periph, t.draws, t.latch))
    = some ([.read .pio 0], 1, Latch.powerOn) := by decide
/-- V3.2. -/
theorem test_memMmioPit_write : (after (.memMmioPit (.write 0x74) 3) (sB 0b011)).map (fun t => (t.periph, t.result))
    = some ([.write .pit 3 0x74], .memWrite 0) := by decide
/-- V3.3. -/
theorem test_memMmioAux_read : (after (.memMmioAux .read) (sB 0b011)).map (·.periph) = some [.read .aux 0] := by decide
/-- V3.5, V3.9. -/
theorem test_memPcgwData : (after (.memPcgwData (.write 0xFF)) (sC 0 0 0)).map (·.latch.pcgData) = some 0xFF
    ∧ out (.memPcgwData .read) (sC 0 0 0) = some (.memRead 0xFF 0) := by decide
/-- V3.5. -/
theorem test_memPcgwAddr : (after (.memPcgwAddr (.write 9)) (sC 0 0 0)).map (·.latch.pcgAddr) = some 9 := by decide
/-- V3.5, V3.7: both halves of the pattern cells. -/
theorem test_memPcgwCtrl_edge : byteAfter (.memPcgwCtrl (.write 0x10)) (sC 0xFF 9 0) .pcg 0x409 = some 0xFF
    ∧ byteAfter (.memPcgwCtrl (.write 0x17)) (sC 0xAA 0xFF 0) .pcg 0xFFF = some 0xAA := by decide
/-- V3.6, V3.8: no edge, and the copy from the character ROM. -/
theorem test_memPcgwCtrl_copy : byteAfter (.memPcgwCtrl (.write 0x10)) (sC 0 9 0x10) .pcg 0x409 = some 0
    ∧ byteAfter (.memPcgwCtrl (.write 0x30)) (sC 0 0x10 0) .pcg 0x410 = some 0x99 := by decide
/-- P2 step 2: the low window writes the flash's command machine. -/
theorem test_memBootflash_write :
    (after (.memBootflash (.write 0xAA) 0x555) (st .reference { Latch.powerOn with bootPage := 5 } .powerOn .powerOn)).map
      (fun t => (t.flash.cycle, t.result)) = some (.unlock1, .memWrite 0) := by decide
/-- V1.1, V4.12. -/
theorem test_memBootrom : out (.memBootrom .read 0) (sB 0b011) = some (.memRead 0xC3 1)
    ∧ out (.memBootrom (.write 0) 0) (sB 0b011) = some (.memWrite 1) := by decide
/-- V4.10 at `HCNT` 0, 159, 160. -/
theorem test_memVram_wait : out (.memVram .read 0) (st .plain700 .powerOn (ras .plain700 0 0) .powerOn) = some (.memRead 0 163)
    ∧ out (.memVram .read 0) (st .plain700 .powerOn (ras .plain700 0 159) .powerOn) = some (.memRead 0 4)
    ∧ out (.memVram .read 0) (st .plain700 .powerOn (ras .plain700 0 160) .powerOn) = some (.memRead 0 0) := by decide
/-- V1.8. -/
theorem test_memVram_write : byteAfter (.memVram (.write 0xEE) 0xFFF) (sB 0b011) .vram 0xFFF = some 0xEE := by decide
/-- V1.11, V1.10. -/
theorem test_memWindow : out (.memWindow .read 0xFFFF) (sB 0b011) = some (.memRead 0x99 0)
    ∧ byteAfter (.memWindow (.write 0x11) 0xE7FF) (sB 0b011) .ram 0xE7FF = some 0 := by decide
/-- V2.12. -/
theorem test_iord : out (.iord 0) (sA 0b011 0) = some (.byte 0xFF) := by decide
/-- V2.7, V2.10. -/
theorem test_iowr : (after (.iowr 0xE5 0x01) (sA 0b110 2)).map (·.latch) = some (lat 0b110 1)
    ∧ (after (.iowr 0x00 0xFF) (sA 0b011 3)).map (·.latch) = some (lat 0b011 3) := by decide
/-- V2.1, V2.6. -/
theorem test_outMonlOff : (after .outMonlOff (sA 0b011 0)).map (·.latch.mode) = some 0b010
    ∧ (after .outMonlOff (sA 0b111 2)).map (·.latch) = some (lat 0b110 2) := by decide
/-- V2.2. -/
theorem test_outMonhOff : (after .outMonhOff (sA 0b010 0)).map (·.latch.mode) = some 0b000 := by decide
/-- V2.3. -/
theorem test_outMonlOn : (after .outMonlOn (sA 0b000 0)).map (·.latch.mode) = some 0b001 := by decide
/-- V2.4, V2.11. -/
theorem test_outMonhOn : (after .outMonhOn (sA 0b001 0)).map (·.latch.mode) = some 0b011
    ∧ (after .outMonhOn (sA 0b011 3)).map (·.latch) = some (lat 0b011 3) := by decide
/-- V2.8. -/
theorem test_outMonAll : (after .outMonAll (sA 0b110 1)).map (·.latch) = some (lat 0b011 1) := by decide
/-- V2.5. -/
theorem test_outPcgOpen : (after (.outPcgOpen 2) (sA 0b011 0)).map (·.latch) = some (lat 0b111 2) := by decide
/-- V2.9, V4.22: bank and stall are kept. -/
theorem test_outPcgClose :
    (after .outPcgClose (st .reference (lat 0b111 3) { Raster.powerOn with stall := true } .powerOn)).map
      (fun t => (t.latch, t.raster.stall)) = some (lat 0b011 3, true) := by decide
/-- V2.14. -/
theorem test_outBootPage : (after (.outBootPage 0x25) (sA 0b011 0)).map (·.latch.bootPage) = some 5 := by decide
/-- V2.15. -/
theorem test_outPriority : (after (.outPriority 3) (sA 0b011 0)).map (·.latch.priority) = some 3 := by decide
/-- V2.10, V2.16. -/
theorem test_outUndef : (after (.outUndef 0) (sA 0b011 3)).map (·.latch) = some (lat 0b011 3)
    ∧ (after (.outPcgOpen 1) (sB 0b011)).map (·.latch) = some (lat 0b011 0) := by decide
/-- V5.1, the first two reads; V5.22. -/
theorem test_frd_busy : out (.frd 0x1234) (sBusy 4) = some (.byte 0xDA) ∧ out (.frd 0x1234) (sBusy 3) = some (.byte 0x9A)
    ∧ out (.frd 0x20) (sBusy 4) = some (.byte 0x7F) := by decide
/-- V5.1, the last read. -/
theorem test_frd_array : out (.frd 0x1234) (sBusy 0) = some (.byte 0x5A) := by decide
/-- V5.10: the status of a stored `00` with an odd and an even counter to come. -/
theorem test_frdStatus : out (.frdStatus 0x2FFF) { sF .idle with flash.busy := 4999 } = some (.byte 0x80)
    ∧ (after (.frdStatus 0x2FFF) { sF .idle with flash.busy := 5000 }).map (fun t => (t.result, t.flash.busy))
      = some (.byte 0xC0, 4999) := by decide
/-- V5.13. -/
theorem test_frdId : out (.frdId 0) (sF .idle) = some (.byte 0x11) ∧ out (.frdId 1) (sF .idle) = some (.byte 0x22) := by decide
/-- V5.13: the array outside addresses 0 and 1. -/
theorem test_frdArray : out (.frdArray 0x8000) (sF .idle) = some (.byte 0xFF)
    ∧ out (.frdArray 0x3000) (sF .idle) = some (.byte 0x12) := by decide
/-- V5.3, V5.7. -/
theorem test_fwr : (after (.fwr 0x1234 0x5A) (sF .idle)).map (fun t => (t.flash.cycle, t.modified, t.peek .fstore 0x1234))
      = some (.idle, false, 0xFF)
    ∧ (after (.fwr 0xD555 0xAA) (sF .idle)).map (·.flash.cycle) = some .unlock1 := by decide
/-- V5.17: `F0` in `UNLOCK1` is a mismatch and keeps the identification mode; V5.20. -/
theorem test_fwr_f0 : (after (.fwr 0 0xF0) { sF .unlock1 with flash.idMode := true }).map (fun t => (t.flash.cycle, t.flash.idMode))
      = some (.idle, true)
    ∧ (after (.fwr 0x5555 0xAA) (sF .programSel)).map (fun t => (t.flash.cycle, t.peek .fstore 0x5555)) = some (.idle, 0xAA) := by
  decide
/-- P2 step 11. -/
theorem test_fwrBusy : (after (.fwrBusy 0x1234 0) (sBusy 2)).map (fun t => (t.flash, t.peek .fstore 0x1234))
    = some ((sBusy 2).flash, 0x5A) := by decide
theorem test_fUnlock1 : (after .fUnlock1 (sF .idle)).map (·.flash) = some (fl .unlock1) := by decide
/-- V5.15. -/
theorem test_fReset : (after (.fReset 0x12345) { sF .idle with flash.idMode := true }).map (·.flash) = some (fl .idle) := by decide
theorem test_fUnlock2 : (after .fUnlock2 (sF .unlock1)).map (·.flash) = some (fl .unlock2) := by decide
theorem test_fProgramSetup : (after .fProgramSetup (sF .unlock2)).map (·.flash) = some (fl .programSel) := by decide
theorem test_fEraseSetup : (after .fEraseSetup (sF .unlock2)).map (·.flash) = some (fl .eraseSel) := by decide
theorem test_fIdEntry : (after .fIdEntry (sF .unlock2)).map (fun t => (t.flash.idMode, t.flash.cycle)) = some (true, .idle) := by
  decide
/-- V5.14. -/
theorem test_fIdExit : (after .fIdExit { sF .unlock2 with flash.idMode := true }).map (·.flash) = some (fl .idle) := by decide
/-- V5.1, V5.21. -/
theorem test_fProgramData : (after (.fProgramData 0x3000 0x5A) (sF .programSel)).map
      (fun t => (t.flash.busy, t.flash.cycle, t.modified)) = some (4, .idle, true)
    ∧ byteAfter (.fProgramData 0x2FFF 0xFF) (sF .programSel) .fstore 0x2FFF = some 0xFF := by decide
theorem test_fEraseUnlock1 : (after .fEraseUnlock1 (sF .eraseSel)).map (·.flash) = some (fl .eraseUnlock1) := by decide
theorem test_fEraseUnlock2 : (after .fEraseUnlock2 (sF .eraseUnlock1)).map (·.flash) = some (fl .eraseUnlock2) := by decide
/-- V5.9. -/
theorem test_fChipErase : (after .fChipErase (sF .eraseUnlock2)).map
    (fun t => (t.peek .fstore 0x2FFF, t.peek .fstore 0x3000, t.flash.busy, t.modified)) = some (0xFF, 0xFF, 20000, true) := by
  decide
/-- V5.10. -/
theorem test_fSectorErase : (after (.fSectorErase 0x3000) (sF .eraseUnlock2)).map
    (fun t => (t.peek .fstore 0x2FFF, t.peek .fstore 0x3000, t.flash.busy)) = some (0x00, 0xFF, 5000) := by decide
/-- V5.6. -/
theorem test_fMismatch : (after (.fMismatch 0x5554 0xA0) (sF .unlock2)).map (·.flash) = some (fl .idle) := by decide
/-- V4.2. -/
theorem test_tick_blankStart : (after .tick (st .plain700 .powerOn (ras .plain700 0 159) .powerOn)).map
    (fun t => (t.raster, t.trace)) = some (ras .plain700 0 160, [(.hblank, true)]) := by decide
/-- 00 R9: with `TV` = PAL the same latch and counters run on the PAL table, whose line has 227 clocks. -/
theorem test_tick_tv :
    (after .tick (st { Config.plain700 with tv := .pal } .powerOn (ras .plain700 200 226) .powerOn)).map
        (fun t => (t.raster.hcnt, t.raster.line)) = some (0, 201)
      ∧ (after .tick (st .plain700 .powerOn (ras .plain700 200 226) .powerOn)).map
        (fun t => (t.raster.hcnt, t.raster.line)) = some (227, 200) := by decide
/-- V4.7: the frame's end; line 0 of a blank VRAM is background colour 1. -/
theorem test_tick_frameEnd : (after .tick (st .plain700 .powerOn (ras .plain700 261 227) .powerOn)).map
    (fun t => (t.raster.line, t.raster.hcnt, t.trace)) = some (0, 0, [(.vblank, false)]) := by decide
/-- V4.5. -/
theorem test_evNewline_vsync : (after .evNewline (st .plain700 .powerOn { ras .plain700 221 0 with line := 222 } .powerOn)).map
    (fun t => (t.raster.vsync, t.raster.vblank, t.trace)) = some (true, true, [(.vsync, true)]) := by decide
/-- V4.8: EV_NEWLINE clears an `HBLANK` that no EV_HBLANK_E cleared. -/
theorem test_evNewline_hblank : signals .evNewline (st .plain700 .powerOn { ras .plain700 210 0 with hblank := true } .powerOn)
    = some [(.hblank, false)] := by decide
theorem test_evHblankS : (after .evHblankS (sB 0b011)).map (fun t => (t.raster.hblank, t.raster.blankVram, t.trace))
    = some (true, true, [(.hblank, true)]) := by decide
/-- P3 step 8: `BLANK_VRAM` stays 1. -/
theorem test_evHblankE : (after .evHblankE (st .plain700 .powerOn (ras .plain700 0 223) .powerOn)).map
    (fun t => (t.raster.hblank, t.raster.blankVram, t.trace)) = some (false, true, [(.hblank, false)]) := by decide
theorem test_evHsyncS : signals .evHsyncS (sB 0b011) = some [(.hsync, true)] := by decide
theorem test_evHsyncE : signals .evHsyncE (st .plain700 .powerOn (ras .plain700 0 180) .powerOn) = some [(.hsync, false)] := by
  decide
/-- V4.16 at clock 170. -/
theorem test_evPcgwin : (after .evPcgwin (st .reference (lat 0b111 1) { ras .reference 0 169 with stall := true } .powerOn)).map
    (fun t => (t.raster.pcgSafe, t.raster.stall, t.trace)) = some (true, false, [(.busreq, false)]) := by decide
/-- V4.21. -/
theorem test_tempo : signals .tempo (sB 0b011) = some [(.tempo, true)] := by decide
/-- V4.21. -/
theorem test_blink : signals .blink (sB 0b011) = some [(.blink, true)] := by decide

/-- A text screen with one cell. -/
def screen (c : Config) (priority : BitVec 2) (vram cg pcg : Memory) : State :=
  { st c { Latch.powerOn with priority := priority } .powerOn .powerOn with
    mems := { Memories.filled with vram := vram, cgrom := cg, pcg := pcg } }

/-- V6.1: the pixels 3 and 4 of the cell. -/
theorem test_renderLine_text :
    (after (.renderLine 0) (screen .plain700 0 [(0, 1), (0x800, 0x70)] [(8, 0x18)] [])).map
      (fun t => [t.framePixel 0 2, t.framePixel 0 3, t.framePixel 0 4, t.framePixel 0 5]) = some [0, 7, 7, 0] := by decide
/-- P4 and V6.10: the overlay cell under the three policies. -/
theorem test_renderLine_overlay :
    [0, 1, 2].map (fun p => (List.range 8).map ((screen .reference p [(0x400, 1), (0xC00, 8)] [(1, 0x81)]
        [(9, 0x0F), (0x2009, 0x3C)]).pixel 1 0))
      = [[1, 1, 3, 3, 2, 2, 1, 7], [7, 1, 3, 3, 2, 2, 1, 7], [7, 1, 3, 3, 2, 2, 0, 7]] := by decide

/-- A machine that shows one line, with a second-pass option. -/
def shown (blend scanline : Bool) (frame prev : Sparse Line) : State :=
  { State.reset with cfg := { Config.reference with blend := blend, scanline := scanline },
                     video := { Video.blank with frame := frame, prev := prev } }

/-- V6.12, V6.13, through the two rows of line 1. -/
theorem test_present_rows :
    ((shown false false [(1, [2])] []).presentRow 2).take 3 = [⟨255, 0, 0⟩, ⟨255, 0, 0⟩, ⟨0, 0, 0⟩]
      ∧ ((shown false true [(1, [2])] []).presentRow 3).take 2 = [⟨0, 0, 0⟩, ⟨0, 0, 0⟩] := by decide
/-- V6.14, V6.15. -/
theorem test_present_blend :
    (((shown true false [(0, [7])] []).presentRow 0).take 1, ((shown true false [(0, [4])] [(0, [2])]).presentRow 0).take 1)
      = ([⟨127, 127, 127⟩], [⟨127, 127, 0⟩]) := by decide
/-- V7.2, V7.3 (the image longer than the ROM), V7.4. -/
theorem test_initCore :
    (after (.initCore .plain700 { Images.absent with ipl := some [0xC3, 0x00] }) (State.unborn [])).map
        (fun t => (t.peek .ipl 0, t.peek .ipl 1, t.peek .ipl 2, t.peek .vram 0x800)) = some (0xC3, 0x00, 0xFF, 0x71)
      ∧ (loadImage (fun _ => 0xFF) 2 (some [1, 2, 3]) : Memory) = [(0, 1), (1, 2)] := by decide
/-- V7.5. -/
theorem test_reset : (after .reset { st .reference { lat 0b110 2 with bootPage := 5 }
        { ras .reference 210 180 with tempo := true } .powerOn with mems := { Memories.filled with ram := [(0, 0x12)] } }).map
      (fun t => (t.latch, t.raster, t.trace, t.peek .ram 0))
    = some (Latch.powerOn, Raster.powerOn, [(.hblank, false), (.hsync, false), (.vblank, false), (.tempo, false)], 0x12) := by
  decide
/-- V7.6. -/
theorem test_reset_stall : signals .reset (st .reference (lat 0b111 1) { Raster.powerOn with stall := true } .powerOn)
    = some [(.busreq, false)] := by decide
/-- V8.1: the components that a save holds. -/
theorem test_snapSave : (after .snapSave (sBusy 2)).map (fun t => match t.result with
      | .saved p => (p.fstore, p.flash.busy, t.trace)
      | _ => ([], 0, [])) = some ([(0x1234, 0x5A)], 2, []) := by decide
/-- V8.3, V8.4. -/
theorem test_snapLoad : out (.snapLoad (sA 0b011 0).snapshot) (sB 0b011) = some (.loaded false)
    ∧ (after (.snapLoad (st .reference (lat 0b111 1) { Raster.powerOn with stall := true, tempo := true } .powerOn).snapshot)
        (sA 0b011 0)).map (fun t => (t.result, t.raster.stall, t.raster.tempo, t.trace))
      = some (.loaded true, true, true, [(.busreq, true)]) := by decide
/-- V8.6, V8.8. -/
theorem test_release : out .release (sA 0b011 0) = some (.image none) ∧ out .release (sB 0b011) = some (.image none)
    ∧ (after .release (sA 0b011 0)).map (·.life) = some .released := by decide

/-! ## Witnesses: for every statement with hypotheses, states and operands that meet them, at the ends of their ranges -/

/-- A state with nothing in its memories is good when its registers are. -/
theorem st_good {c : Config} {l : Latch} {r : Raster} {f : FlashRegs} (hc : c.Ok) (hl : LatchOk c l) (hr : RasterOk c r)
    (hf : FlashRegsOk c f) (hs : StoreOk c f []) : (st c l r f).Good where
  cfgOk := hc
  bufferOk b := by cases b <;> exact ⟨⟨List.Pairwise.nil, by simp [st, State.mem, State.reset, Memories.filled]⟩, fun _ => rfl, fun _ => rfl⟩
  latchOk := hl
  rasterOk := hr
  flashOk := hf
  pcgOk := by simp [st, State.reset, Memories.filled]
  storeOk := hs
  modifiedOk _ := rfl
  frameOk := ⟨⟨List.Pairwise.nil, by simp [st, State.reset, Video.blank]⟩, by simp [st, State.reset, Video.blank]⟩
  prevOk := ⟨⟨List.Pairwise.nil, by simp [st, State.reset, Video.blank]⟩, by simp [st, State.reset, Video.blank]⟩
  hostOk := ⟨⟨List.Pairwise.nil, by simp [st, State.reset, Video.blank]⟩, by simp [st, State.reset, Video.blank]⟩

/-- A good MZ1500 in the last clock of the frame, with the overlay open. -/
def wA : State := st .reference { lat 0b111 3 with bootPage := 31, priority := 3 } (ras .reference 261 227) .powerOn
/-- The same at clock 20 with the bus request up. -/
def wStall : State := st .reference (lat 0b111 1) { ras .reference 7 20 with stall := true } .powerOn
/-- A good MZ700 with the boot ROM, at the clock before blank-start. -/
def wB : State := st .plain700 (lat 0b011 0) (ras .plain700 199 159) .powerOn
/-- A good MZ700 with the PCG board. -/
def wC : State := st .board700 { Latch.powerOn with pcgData := 0xFF, pcgAddr := 0xFF, pcgCtrl := 0x0F } (ras .board700 0 1) .powerOn
/-- A good MZ1500 with the low window on the flash, in a cycle state, overlay closed. -/
def wF (k : Cycle) : State := st .reference { lat 0b011 0 with bootPage := 31 } (ras .reference 0 1) (fl k)
/-- A good MZ1500 whose flash counts down. -/
def wBusy (n : Nat) : State := st .reference (lat 0b011 0) (ras .reference 0 1) { FlashRegs.powerOn with busy := n }

theorem reference_ok : Config.reference.Ok := by decide
theorem plain700_ok : Config.plain700.Ok := by decide
theorem board700_ok : Config.board700.Ok := by decide
theorem wA_good : wA.Good := st_good (by decide) (by decide) (by decide) (by decide) (by decide)
theorem wStall_good : wStall.Good := st_good (by decide) (by decide) (by decide) (by decide) (by decide)
theorem wB_good : wB.Good := st_good (by decide) (by decide) (by decide) (by decide) (by decide)
theorem wC_good : wC.Good := st_good (by decide) (by decide) (by decide) (by decide) (by decide)
theorem wF_good (k : Cycle) : (wF k).Good :=
  st_good (by decide) (by decide) (by decide) (by cases k <;> decide) (by cases k <;> decide)
theorem wBusy_good : (wBusy 20000).Good := st_good (by decide) (by decide) (by decide) (by decide) (by decide)

/-- The state with requests presented. -/
def given (s : State) (rs : List Request) : State := { s with inbox := rs }

/-! ### Encoding, the step -/

/-- The hypotheses of DecodeInvertsEncode. -/
def encodable (x : Context) (i : Instr) : Bool :=
  decide x.cfg.Ok && i.wf x.cfg && rowHolds x i && (encode x.cfg i).isSome

theorem witness_DecodeInvertsEncode_mem :
    encodable wA.context (.memPcgwin .read 0xD000) = true ∧ encodable wA.context (.memPcgwin (.write 1) 0xEFFF) = true
      ∧ encodable wB.context (.memMmioPio .read 3) = true ∧ encodable wB.context (.memMmioPit (.write 1) 3) = true
      ∧ encodable wB.context (.memMmioAux .read) = true ∧ encodable wC.context (.memPcgwData .read) = true
      ∧ encodable wC.context (.memPcgwAddr .read) = true ∧ encodable wC.context (.memPcgwCtrl .read) = true
      ∧ encodable (wF .idle).context (.memBootflash .read 0xFFF) = true ∧ encodable wB.context (.memBootrom .read 0xFFF) = true
      ∧ encodable wB.context (.memVram .read 0xFFF) = true ∧ encodable wB.context (.memWindow .read 0x1000) = true
      ∧ encodable wB.context (.memWindow .read 0xFFFF) = true := by decide

theorem witness_DecodeInvertsEncode_ports :
    encodable wB.context (.iord 0xFF) = true ∧ encodable wB.context .outMonlOff = true ∧ encodable wB.context .outMonhOff = true
      ∧ encodable wB.context .outMonlOn = true ∧ encodable wB.context .outMonhOn = true ∧ encodable wB.context .outMonAll = true
      ∧ encodable wA.context (.outPcgOpen 3) = true ∧ encodable wA.context .outPcgClose = true
      ∧ encodable wA.context (.outBootPage 0xFF) = true ∧ encodable wA.context (.outPriority 3) = true
      ∧ encodable wB.context (.outUndef 0xE9) = true := by decide

theorem witness_DecodeInvertsEncode_flash :
    encodable (wBusy 1).context (.frdStatus 0x1FFFF) = true
      ∧ encodable { (wF .idle).context with flash.idMode := true } (.frdId 1) = true
      ∧ encodable { (wF .idle).context with flash.idMode := true } (.frdArray 2) = true
      ∧ encodable (wBusy 1).context (.fwrBusy 0x1FFFF 0) = true ∧ encodable (wF .idle).context .fUnlock1 = true
      ∧ encodable (wF .idle).context (.fReset 0) = true ∧ encodable (wF .unlock1).context .fUnlock2 = true
      ∧ encodable (wF .unlock2).context .fProgramSetup = true ∧ encodable (wF .unlock2).context .fEraseSetup = true
      ∧ encodable (wF .unlock2).context .fIdEntry = true ∧ encodable (wF .unlock2).context .fIdExit = true
      ∧ encodable (wF .programSel).context (.fProgramData 0x1FFFF 0xFF) = true
      ∧ encodable (wF .eraseSel).context .fEraseUnlock1 = true ∧ encodable (wF .eraseUnlock1).context .fEraseUnlock2 = true
      ∧ encodable (wF .eraseUnlock2).context .fChipErase = true
      ∧ encodable (wF .eraseUnlock2).context (.fSectorErase 0x1FFFF) = true
      ∧ encodable (wF .unlock2).context (.fMismatch 0x5554 0xA0) = true := by decide

theorem witness_DecodeInvertsEncode_calls :
    encodable wA.context .tick = true ∧ encodable wA.context .tempo = true ∧ encodable wA.context .blink = true
      ∧ encodable wA.context .present = true ∧ encodable wA.context .reset = true ∧ encodable wA.context .snapSave = true
      ∧ encodable wA.context .release = true ∧ encodable wA.context (.initCore .board700 .absent) = true
      ∧ encodable wA.context (.snapLoad wB.snapshot) = true := by decide

/-- The three clauses: equal low address halves, a port that ignores its data, a 2-bit port. -/
theorem witness_IgnoredBitsDoNotMatter :
    (0x12E0#16 : Addr).setWidth 8 = (0x00E0#16 : Addr).setWidth 8
      ∧ (0x00E0#16 : Addr).setWidth 8 ∉ [Config.reference.ports.pcgOpen, Config.reference.ports.bootPage,
          Config.reference.ports.priority]
      ∧ (0x00E5#16 : Addr).setWidth 8 ≠ Config.reference.ports.bootPage ∧ (0xFE#8).toNat % 4 = (0x02#8).toNat % 4 := by decide

theorem witness_DecodedOperationIsItsCarrier :
    (decode wA.context (.bus 0x1EFFF55#26)).toOption = some (.memPcgwin (.write 0x55) 0xEFFF)
      ∧ (carrier wA.cfg (.bus 0x1EFFF55#26)).toOption = some (.memwr 0xEFFF 0x55)
      ∧ (decode (wF .eraseUnlock2).context (.flashWr 0x5555 0x10)).toOption = some .fChipErase
      ∧ (carrier (wF .eraseUnlock2).cfg (.flashWr 0x5555 0x10)).toOption = some (.fwr 0x5555 0x10) := by decide

theorem witness_StepRunsTheDecodedOperation :
    (given wB [.bus 0x0D80000#26, .tick]).inbox = .bus 0x0D80000#26 :: [.tick]
      ∧ decode (given wB [.bus 0x0D80000#26, .tick]).context (.bus 0x0D80000#26) = .ok (.memVram .read 0x800)
      ∧ wB.inbox = [] := ⟨rfl, rfl, rfl⟩

/-- One admitted request of each kind, and one that is not. -/
theorem witness_RequestAnsweredIffAdmitted :
    wA.admits (.bus 0) ∧ wA.admits (.flashRd 0) ∧ wA.admits (.snapLoad wB.snapshot)
      ∧ (State.unborn []).admits (.initCore .plain700 .absent) ∧ ¬ wB.admits (.flashRd 0) := by
  refine ⟨rfl, ⟨rfl, rfl⟩, ⟨rfl, by decide⟩, ⟨rfl, by decide⟩, fun h => ?_⟩
  exact absurd h.2 (by decide)

theorem witness_OperationsOutsideTheirInstanceAreRefused :
    ({ wA with life := .released }).life = .released ∧ (State.unborn []).life = .unborn
      ∧ (∀ c im, Instr.memrd 0 ≠ .initCore c im) ∧ wA.life = .live
      ∧ ¬ ({ Config.reference with iplSize := 2048 }).Ok ∧ wB.life = .live ∧ wB.cfg.hasFlash = false :=
  ⟨rfl, rfl, fun _ _ h => (nomatch h), rfl, by decide, rfl, rfl⟩

/-! ### Invariants -/

theorem witness_EveryStepKeepsTheInvariant : (given wA [.tick]).Inv ∧ (given wA [.tick]).life = .live
    ∧ ∃ t, step (given wA [.tick]) = .next t :=
  ⟨fun _ => { wA_good with }, rfl, _, rfl⟩

theorem witness_ConfigurationAndRomsAreFixed : (given wB [.bus 0x1000012#26]).life = .live
    ∧ ∃ t, step (given wB [.bus 0x1000012#26]) = .next t := ⟨rfl, _, rfl⟩

/-- A memory write, which is not of kind 3. -/
theorem witness_ModeIsWrittenByPortsOnly : (∃ t, perform (.bus 0x1EFFF55#26) wA = .next t)
    ∧ (∀ tc, Request.bus 0x1EFFF55#26 = .bus tc → tcKind tc ≠ 3) ∧ Request.bus 0x1EFFF55#26 ≠ .reset
    ∧ (∀ p, Request.bus 0x1EFFF55#26 ≠ .snapLoad p) ∧ ∀ c im, Request.bus 0x1EFFF55#26 ≠ .initCore c im :=
  ⟨⟨_, rfl⟩, fun _ h => by cases h; decide, by simp, by simp, by simp⟩

theorem witness_RasterIsMovedByTicksOnly : (∃ t, perform .tempo wStall = .next t) ∧ Request.tempo ≠ .tick
    ∧ Request.tempo ≠ .reset ∧ (∀ p, Request.tempo ≠ .snapLoad p) ∧ (∀ c im, Request.tempo ≠ .initCore c im)
    ∧ Request.tempo ≠ .blink := ⟨⟨_, rfl⟩, by simp, by simp, by simp, by simp, by simp⟩

/-- The first address above the low window. -/
theorem witness_FlashIsTouchedByItsOwnersOnly : (∃ t, perform (.bus 0x1100055#26) (wF .idle) = .next t)
    ∧ (∀ tc, Request.bus 0x1100055#26 = .bus tc → (tcKind tc).toNat ≤ 1 →
        ¬ ((wF .idle).latch.monL = true ∧ (tcAddr tc).toNat < 0x1000)) :=
  ⟨⟨_, rfl⟩, fun _ h _ => by cases h; decide⟩

theorem witness_TraceHoldsTheLevelChanges : (given wStall [.reset]).life = .live ∧ (given wStall [.reset]).Good
    ∧ (∃ t, step (given wStall [.reset]) = .next t) ∧ (∀ p rest, (given wStall [.reset]).inbox ≠ .snapLoad p :: rest) :=
  ⟨rfl, { wStall_good with }, ⟨_, rfl⟩, by simp [given]⟩

/-! ### The Bank Map and the memory accesses -/

theorem witness_WindowsStayInsideTheirBuffers : Config.reference.Ok ∧ Config.board700.Ok ∧ (31 : Nat) < 32
    ∧ (derive .reference wA.latch 29).rsrc.buffer = some .pcg ∧ (derive .plain700 wB.latch 31).rsrc.buffer = some .ext
    ∧ (derive .reference wA.latch 29).wsink.buffer = some .pcg :=
  ⟨reference_ok, board700_ok, by decide⟩

/-- A dropped write, and a good state for a stored one. -/
theorem witness_WindowAccessFollowsTheMap : wB.life = .live ∧ mapSink wB 0xE800 = none ∧ mapSink wB 0xCFFF = some (.ram, 0xCFFF)
    ∧ wB.Good ∧ wA.life = .live ∧ mapSink wA 0xEFFF = some (.pcg, 0x5FFF) ∧ wA.Good :=
  ⟨rfl, by decide, by decide, wB_good, rfl, by decide, wA_good⟩

/-- Neither the intercepts nor the flash take an access. -/
def mapped (s : State) (a : Addr) : Bool := !takenByIntercept s a && !takenByFlash s a

/-- The hypotheses of the access statements, at the edges of the map on two configurations. -/
theorem witness_MemrdReturnsTheMappedByte :
    wB.life = .live ∧ wB.cfg.Ok ∧ wA.life = .live ∧ wA.cfg.Ok
      ∧ [0x0000, 0x0FFF, 0x1000, 0xCFFF, 0xD000, 0xDFFF, 0xE7FF, 0xE800, 0xFFFF].all (mapped wB) = true
      ∧ [0x1000, 0xCFFF, 0xD000, 0xEFFF, 0xF000, 0xFFFF].all (mapped wA) = true :=
  ⟨rfl, plain700_ok, rfl, reference_ok, by decide, by decide⟩

theorem witness_MemwrStoresThroughTheMap : wStall.life = .live ∧ wStall.Good ∧ takenByIntercept wStall 0xD000 = false
    ∧ takenByFlash wStall 0xD000 = false ∧ wB.Good ∧ takenByIntercept wB 0xDFFF = false ∧ takenByFlash wB 0xDFFF = false :=
  ⟨rfl, wStall_good, by decide, by decide, wB_good, by decide, by decide⟩

theorem witness_WaitCountsFollowTheTable : wB.life = .live ∧ wB.cfg.Ok ∧ expectedWait wB 0xD000 = 4
    ∧ expectedWait wB 0x0FFF = 1 := ⟨rfl, plain700_ok, by decide⟩

theorem witness_WrittenByteIsReadBack : wA.life = .live ∧ wA.Good ∧ takenByIntercept wA 0xD000 = false
    ∧ (mapSink wA 0xD000).isSome = true ∧ (mapSink wB 0xDFFF).isSome = true :=
  ⟨rfl, wA_good, by decide, by decide, by decide⟩

theorem witness_OtherReadsHaveNoSideEffect : wStall.life = .live ∧ wStall.cfg.Ok
    ∧ ¬ (takenByFlash wStall 0xD000 = true ∧ 0 < wStall.flash.busy)
    ∧ ¬ (takenByIntercept wStall 0xD000 = true ∧ peripheralAddr wStall.cfg 0xD000 = true)
    ∧ ¬ (inOpenPcg wStall 0xD000 = true ∧ wStall.raster.pcgSafe = false ∧ wStall.raster.stall = false)
    ∧ (takenByFlash (wF .idle) 0 = true ∧ ¬ 0 < (wF .idle).flash.busy) :=
  ⟨rfl, reference_ok, by decide⟩

theorem witness_PcgWindowAccessMayStall : wA.life = .live ∧ wA.Good ∧ wA.cfg.overlay = true ∧ wA.latch.pcgEn = true
    ∧ 0xD000 ≤ (0xD000 : Addr).toNat ∧ (0xEFFF : Addr).toNat ≤ 0xEFFF := ⟨rfl, wA_good, by decide, by decide, by decide, by decide⟩

theorem witness_VramAccessCostsTheVramWait : wB.life = .live ∧ wB.Good ∧ wB.latch.monH = true ∧ overlayOpen wB = false :=
  ⟨rfl, wB_good, by decide, by decide⟩

theorem witness_BootRomAccessCostsOne : wB.life = .live ∧ wB.latch.monL = true ∧ wB.cfg.hasFlash = false := by decide

theorem witness_BootFlashAccessIsTheFlashOperation : (wF .idle).life = .live ∧ (wF .idle).cfg.hasFlash = true := by decide

theorem witness_PeripheralAccessesAreForwarded : wB.life = .live := rfl

/-- The last register of each device, and the PCG write port. -/
theorem witness_InterceptedAccessesReachTheirRegisters :
    wB.life = .live ∧ wB.cfg.Ok ∧ wB.latch.monH = true ∧ overlayOpen wB = false
      ∧ outsideFour wB.cfg.mmio.pioBase (wB.cfg.mmio.pitBase + BitVec.ofNat 16 0)
      ∧ outsideFour wB.cfg.mmio.pioBase wB.cfg.mmio.aux ∧ outsideFour wB.cfg.mmio.pitBase wB.cfg.mmio.aux
      ∧ wC.life = .live ∧ wC.cfg.Ok ∧ wC.latch.monH = true ∧ overlayOpen wC = false ∧ wC.cfg.hasPcgPort = true
      ∧ (outsideFour wC.cfg.mmio.pioBase wC.cfg.mmio.pcgData ∧ outsideFour wC.cfg.mmio.pitBase wC.cfg.mmio.pcgData)
      ∧ wC.cfg.mmio.pcgData ≠ wC.cfg.mmio.aux ∧ wC.cfg.mmio.pcgAddr ≠ wC.cfg.mmio.aux ∧ wC.cfg.mmio.pcgCtrl ≠ wC.cfg.mmio.aux :=
  ⟨rfl, plain700_ok, by decide, by decide, .inr (by decide), .inr (by decide), .inr (by decide), rfl, board700_ok, by decide,
    by decide, by decide, ⟨.inr (by decide), .inr (by decide)⟩, by decide, by decide, by decide⟩

theorem witness_PcgPortLatchesLoad : wC.life = .live ∧ wC.cfg.hasPcgPort = true := by decide

/-- With and without the edge. -/
theorem witness_PcgControlWritesOnTheRisingEdge : wC.life = .live ∧ wC.Good ∧ wC.cfg.hasPcgPort = true
    ∧ (wC.latch.pcgCtrl.getLsbD 4 = false ∧ (0x17 : Byte).getLsbD 4 = true) ∧ (0x0F : Byte).getLsbD 4 = false :=
  ⟨rfl, wC_good, by decide, by decide, by decide⟩

/-! ### The ports -/

/-- Both hypotheses of the windows clauses, with the ends of their ranges. -/
theorem witness_MonPortsSetOneBit : wB.life = .live ∧ overlayOpen wB = false ∧ wB.cfg.hasFlash = false
    ∧ (0x0FFF : Addr).toNat < 0x1000 ∧ 0xD000 ≤ (0xFFFF : Addr).toNat ∧ (0xDFFF : Addr).toNat ≤ 0xDFFF
    ∧ (0xE7FF : Addr).toNat ≤ 0xE7FF ∧ 0xE800 ≤ (0xE800 : Addr).toNat ∧ wA.life = .live ∧ overlayOpen wA = true
    ∧ wA.cfg.hasFlash = true ∧ wA.cfg.Ok :=
  ⟨rfl, by decide, by decide, by decide, by decide, by decide, by decide, by decide, rfl, by decide, rfl, reference_ok⟩

theorem witness_OtherPortsWriteTheirFields : wA.life = .live ∧ LatchOk wA.cfg wA.latch ∧ LatchOk wB.cfg wB.latch
    ∧ wA.cfg.overlay = true ∧ wA.cfg.hasFlash = true := by decide

theorem witness_PortAccessesTouchTheLatchOnly : wB.life = .live ∧ (0xE5 : Port) ∉ wB.cfg.definedPorts := by decide

theorem witness_AbsentRegistersAreHardWired : wB.life = .live ∧ wB.cfg.overlay = false ∧ wB.cfg.hasFlash = false
    ∧ wB.cfg.hasPcgPort = false := by decide

/-! ### The flash -/

theorem witness_StatusReadTogglesAndCountsDown : (wBusy 1).life = .live ∧ (wBusy 1).cfg.hasFlash = true
    ∧ 0 < (wBusy 1).flash.busy := by decide

theorem witness_ArrayReadReturnsTheStoredByte : (sF .idle).life = .live ∧ (sF .idle).cfg.hasFlash = true := by decide

theorem witness_FlashReadDispatch : (wBusy 1).life = .live ∧ 0 < (wBusy 1).flash.busy
    ∧ ({ wF .idle with flash.idMode := true } : State).flash.busy = 0
    ∧ ({ wF .idle with flash.idMode := true } : State).flash.idMode = true ∧ (wF .idle).flash.idMode = false := by decide

theorem witness_FlashWriteFollowsTheTable (k : Cycle) : (wF k).life = .live ∧ (wF k).Good ∧ (wF k).cfg.hasFlash = true
    ∧ (wF k).flash.busy = 0 ∧ (wF k).flash.cycle = k := ⟨rfl, wF_good k, rfl, rfl, rfl⟩

theorem witness_BusyWritesAreIgnored : (wBusy 20000).life = .live ∧ (wBusy 20000).Good ∧ (wBusy 20000).cfg.hasFlash = true
    ∧ 0 < (wBusy 20000).flash.busy := ⟨rfl, wBusy_good, rfl, by decide⟩

/-- The hypotheses of the FWR half of each rule, with the address bits above 14 set. -/
theorem witness_UnlockStepsMoveTheCycle : (wF .idle).life = .live ∧ (wF .idle).cfg.Ok ∧ (wF .idle).cfg.hasFlash = true
    ∧ (0x1D555 % 0x8000) * 256 + (0xAA : Byte).toNat = 0x5555AA ∧ (0x1AAAA % 0x8000) * 256 + (0x55 : Byte).toNat = 0x2AAA55
    ∧ (0x5555 % 0x8000) * 256 + (0xA0 : Byte).toNat = 0x5555A0 ∧ (0x5555 % 0x8000) * 256 + (0x80 : Byte).toNat = 0x555580
    ∧ ∀ k ∈ [Cycle.idle, .unlock1, .unlock2, .eraseSel, .eraseUnlock1], (wF k).flash.busy = 0 ∧ (wF k).flash.cycle = k :=
  ⟨rfl, reference_ok, by decide⟩

theorem witness_IdentificationAndMismatchWrites : (wF .unlock2).life = .live ∧ (wF .unlock2).cfg.hasFlash = true := by decide

theorem witness_StoringCommands : (wF .programSel).life = .live ∧ (wF .programSel).Good ∧ (wF .programSel).cfg.hasFlash = true
    ∧ 0x1FFFF < (wF .programSel).cfg.flashSize := ⟨rfl, wF_good _, rfl, by decide⟩

theorem witness_BusyEndsAfterThatManyReads : (wBusy 4).life = .live ∧ (wBusy 4).cfg.hasFlash = true
    ∧ [0, 1, 0x1FFFF, 0].length = (wBusy 4).flash.busy := by decide

theorem witness_ProgramSequenceStoresTheByte : (wF .idle).life = .live ∧ (wF .idle).Good ∧ (wF .idle).cfg.hasFlash = true
    ∧ (wF .idle).flash.cycle = .idle ∧ (wF .idle).flash.busy = 0 ∧ ((wF .idle).flash.idMode = false ∨ 1 < 0x1FFFF)
    ∧ 0x1FFFF < (wF .idle).cfg.flashSize := ⟨rfl, wF_good _, rfl, rfl, rfl, .inl rfl, by decide⟩

/-- The same in the identification mode, at the first address that is no identification address. -/
theorem witness_ProgramSequenceStoresTheByte_id :
    (st .reference (lat 0b011 0) (ras .reference 0 1) { FlashRegs.powerOn with idMode := true }).Good
      ∧ (1 : Nat) < 2 ∧ 2 < Config.reference.flashSize := ⟨st_good (by decide) (by decide) (by decide) (by decide) (by decide), by decide, by decide⟩

/-! ### The raster, the renderer, the host -/

/-- The last clock of the frame, a clock before blank-start, and a stalled clock. -/
theorem witness_TickAdvancesTheRaster : wA.life = .live ∧ wA.Good ∧ wB.life = .live ∧ wB.Good ∧ wStall.life = .live ∧ wStall.Good :=
  ⟨rfl, wA_good, rfl, wB_good, rfl, wStall_good⟩

theorem witness_TickEmitsInOrder : wA.Good ∧ ∃ t, exec .tick wA = .next t := ⟨wA_good, _, rfl⟩

theorem witness_NewlineRecomputesTheFlags : wA.life = .live ∧ wB.life = .live := by decide

theorem witness_TimedEventsSetTheirFlags : wStall.life = .live ∧ wStall.cfg.overlay = true := by decide

theorem witness_TempoAndBlinkToggle : wB.life = .live := rfl

theorem witness_RenderLineDrawsTheFormulas : wA.life = .live ∧ wA.Good ∧ 199 < 200 ∧ 39 < 40 ∧ 7 < 8 :=
  ⟨rfl, wA_good, by decide, by decide, by decide⟩

theorem witness_PresentExpandsTheFrame : wA.life = .live ∧ wA.Good ∧ 399 < 400 ∧ 639 < 640 :=
  ⟨rfl, wA_good, by decide, by decide⟩

/-- Two states that differ in the stall and in `RAM` but not in what the renderer reads. -/
theorem witness_RendererReadsItsInputsOnly :
    ∃ s u t w : State, s ≠ u ∧ s.Good ∧ u.Good ∧ s.cfg = u.cfg ∧ s.latch.priority = u.latch.priority
      ∧ (∀ k, s.peek .vram k = u.peek .vram k) ∧ (∀ k, s.peek .cgrom k = u.peek .cgrom k)
      ∧ (∀ k, s.peek .pcg k = u.peek .pcg k) ∧ exec (.renderLine 199) s = .next t ∧ exec (.renderLine 199) u = .next w :=
  ⟨wStall, wBusy 20000, _, _, by decide, wStall_good, wBusy_good, rfl, rfl, fun _ => rfl, fun _ => rfl, fun _ => rfl, rfl, rfl⟩

theorem witness_PresentCommutesWithTheBus : ofBusOrScheduler .tick ∧ ofBusOrScheduler (.bus 0x1EFFF55#26)
    ∧ ofBusOrScheduler (.flashRd 0) ∧ (∃ p, exec .present wA = .next p) ∧ (∃ t, perform .tick wA = .next t)
    ∧ ∃ t, perform (.flashRd 0) wA = .next t := ⟨trivial, trivial, trivial, ⟨_, rfl⟩, ⟨_, rfl⟩, _, rfl⟩

/-- The three reference configurations, so that every clause on a unit has an instance with the unit. -/
theorem witness_InitializeBuildsThePowerOnState : (State.unborn []).life = .unborn ∧ Config.reference.Ok ∧ Config.plain700.Ok
    ∧ Config.board700.Ok ∧ Config.reference.hasFlash = true ∧ Config.plain700.extrom = true
    ∧ Config.board700.hasPcgPort = true := ⟨rfl, reference_ok, plain700_ok, board700_ok, by decide⟩

theorem witness_ResetDropsTheLevelsInOrder : wStall.life = .live ∧ wStall.Good := ⟨rfl, wStall_good⟩

theorem witness_SnapshotRoundTrip : wStall.life = .live ∧ wStall.Good ∧ (wBusy 20000).life = .live ∧ (wBusy 20000).Good
    ∧ (wBusy 20000).cfg = wStall.cfg := ⟨rfl, wStall_good, rfl, wBusy_good, rfl⟩

theorem witness_MismatchedSnapshotChangesNothing : wB.life = .live ∧ wA.snapshot.identity ≠ wB.cfg
    ∧ ({ wB.snapshot with version := 1 } : Snapshot).version ≠ wB.cfg.revision
    ∧ ({ wB.snapshot with latch.bootPage := 1 } : Snapshot).version = wB.cfg.revision
    ∧ ({ wB.snapshot with latch.bootPage := 1 } : Snapshot).identity = wB.cfg
    ∧ ({ wB.snapshot with latch.bootPage := 1 } : Snapshot).wf = false := by decide

/-- The four bodies that are named: the counts just above a sector erase's and a byte program's, the first pattern byte, the first
page that is no data byte. -/
theorem witness_MismatchedSnapshotChangesNothing_bodies :
    wA.life = .live ∧ wA.snapshot.version = wA.cfg.revision ∧ wA.snapshot.identity = wA.cfg
      ∧ (5000 < ({ wA.snapshot with flash := ⟨.idle, 5001, false⟩, fstore := [(0x1FFFF, 0)] } : Snapshot).flash.busy
        ∧ Sparse.get (fillOf wA.cfg .fstore) [(0x1FFFF, 0)] 0x1FFFF ≠ 0xFF)
      ∧ (4 < 5 ∧ ((List.range 32).all fun n => decide
          (Sparse.get (fillOf wA.cfg .fstore) ((List.range 32).map fun m => (m * 4096, (0 : Byte))) (n * 4096) ≠ 0xFF)) = true)
      ∧ (wB.cfg.overlay = false ∧ wB.cfg.hasPcgPort = false ∧ Sparse.get (fillOf wB.cfg .pcg) [(0, (1 : Byte))] 0 ≠ 0)
      ∧ 255 < ({ wA.snapshot with latch.bootPage := 256 } : Snapshot).latch.bootPage := by decide

theorem witness_EqualInstancesAnswerAlike : ofBusOrScheduler .tick
    ∧ SameToTheBus wA { wA with modified := true, trace := [(.blink, true)], draws := 3 } ∧ ∃ t, perform .tick wA = .next t :=
  ⟨trivial, ⟨rfl, rfl, rfl, rfl, rfl, rfl⟩, _, rfl⟩

/-- With something to hand over and with nothing. -/
theorem witness_ReleaseHandsOverAModifiedFlash : ({ wA with modified := true } : State).life = .live ∧ wB.life = .live
    ∧ wA.cfg.hasFlash = true ∧ wB.cfg.hasFlash = false := by decide

end Sys2Proof.Tests
end

section
/-! SUPPORT. The statements of the scope: what a step is, what no step changes, what a step appends to the signal trace, and what
one TICK does. -/

namespace Sys2Proof.Machine

open Sys2Proof.Claims

variable {s t u : State} {r : Request}

/-! ## The step -/

theorem step_nil (h : s.inbox = []) : step s = .next s := by simp only [step, h]

/-- Performing a request is running the operation it decodes to. -/
theorem perform_of_decode {i : Instr} (h : decode s.context r = .ok i) : perform r s = exec i s := by
  simp only [perform, h]

/-- Settles O6: the decoder does not read the requests still to come. -/
theorem stepRunsTheDecodedOperation : Obligations.StepRunsTheDecodedOperation := by
  refine ⟨fun s r rest i hin hdec => ?_, fun s hin => step_nil hin⟩
  have hdec' : decode (State.context { s with inbox := rest }) r = .ok i := hdec
  rw [step_cons hin, perform_of_decode hdec']

/-- What a request answered by a living core leaves, one case per kind of request and of bus transaction. -/
inductive Effect (s : State) : Request → State → Prop
  | memRead (tc : BitVec 26) (hk : (tcKind tc).toNat = 0) : Effect s (.bus tc) (s.memAccess .read (tcAddr tc))
  | memWrite (tc : BitVec 26) (hk : (tcKind tc).toNat = 1) :
      Effect s (.bus tc) (s.memAccess (.write (tcData tc)) (tcAddr tc))
  | portRead (tc : BitVec 26) (hk : (tcKind tc).toNat = 2) : Effect s (.bus tc) (s.answer (.byte 0xFF))
  | portWrite (tc : BitVec 26) (hk : (tcKind tc).toNat = 3) :
      Effect s (.bus tc) ((s.portWrite (tcPort tc) (tcData tc)).answer .done)
  | flashRd (fa : Nat) (hf : s.cfg.hasFlash = true) : Effect s (.flashRd fa)
      ((s.flashRead (maskFa s.cfg fa)).1.answer (.byte (s.flashRead (maskFa s.cfg fa)).2))
  | flashWr (fa : Nat) (v : Byte) (hf : s.cfg.hasFlash = true) :
      Effect s (.flashWr fa v) ((s.flashWrite (maskFa s.cfg fa) v).answer .done)
  | tick : Effect s .tick (s.tick.answer .done)
  | tempo : Effect s .tempo ((s.drive .tempo (!s.raster.tempo)).answer .done)
  | blink : Effect s .blink ((s.drive .blink (!s.raster.blink)).answer .done)
  | present : Effect s .present (s.presentFrame.answer .done)
  | reset : Effect s .reset (s.resetCore.answer .done)
  | snapSave : Effect s .snapSave (s.answer (.saved s.snapshot))
  | snapLoad (p : Snapshot) (htag : s.tagsMatch p = true) (hwf : p.wf = true) :
      Effect s (.snapLoad p) ((s.restore p).answer (.loaded true))
  | snapMismatch (p : Snapshot) (htag : s.tagsMatch p = false) : Effect s (.snapLoad p) (s.answer (.loaded false))
  | release : Effect s .release
      { s with life := .released
               result := .image (if s.cfg.hasFlash && s.modified then some s.flashImage else none) }

/-- An answered bus transaction, by its kind (30 R91). -/
theorem effect_of_bus {tc : BitVec 26} (h : perform (.bus tc) s = .next t) : s.life = .live ∧ Effect s (.bus tc) t := by
  rw [perform_bus, whenLive_next] at h
  obtain ⟨hl, rfl⟩ := h
  refine ⟨hl, ?_⟩
  have hlt : (tcKind tc).toNat < 4 := (tcKind tc).isLt
  generalize hk : (tcKind tc).toNat = n at hlt
  rcases n with _ | _ | _ | _ | n
  · exact .memRead tc hk
  · exact .memWrite tc hk
  · exact .portRead tc hk
  · exact .portWrite tc hk
  · omega

/-- Everything an answered request can have done: INITIALIZE began a core, or the core lives and the request had the
effect of its kind. -/
theorem effect_of_perform (h : perform r s = .next t) : (s.life = .live ∧ Effect s r t)
    ∨ ∃ c im, r = .initCore c im ∧ s.life = .unborn ∧ c.Ok ∧ t = (initState c im s).answer .done := by
  have live : ∀ {u : State}, s.whenLive u = .next t → Effect s r u → s.life = .live ∧ Effect s r t := fun hu e => by
    obtain ⟨hl, rfl⟩ := whenLive_next.1 hu
    exact ⟨hl, e⟩
  cases r with
  | bus tc => exact .inl (effect_of_bus h)
  | flashRd fa =>
    cases hf : s.cfg.hasFlash with
    | false => rw [(perform_noFlash (v := 0) hf fa).1] at h; cases h
    | true =>
      rw [perform_flashRd fa hf, whenFlash_next] at h
      obtain ⟨hl, -, rfl⟩ := h
      exact .inl ⟨hl, .flashRd fa hf⟩
  | flashWr fa v =>
    cases hf : s.cfg.hasFlash with
    | false => rw [(perform_noFlash hf fa).2] at h; cases h
    | true =>
      rw [perform_flashWr fa hf, whenFlash_next] at h
      obtain ⟨hl, -, rfl⟩ := h
      exact .inl ⟨hl, .flashWr fa v hf⟩
  | tick => exact .inl (live h .tick)
  | tempo => exact .inl (live h .tempo)
  | blink => exact .inl (live h .blink)
  | present => exact .inl (live h .present)
  | initCore c im => exact .inr ⟨c, im, rfl, (perform_initCore c im).1 h⟩
  | reset => exact .inl (live h .reset)
  | snapSave => exact .inl (live h .snapSave)
  | snapLoad p =>
    obtain ⟨hl, ⟨htag, hwf, rfl⟩ | ⟨htag, rfl⟩⟩ := (perform_snapLoad p).1 h
    · exact .inl ⟨hl, .snapLoad p htag hwf⟩
    · exact .inl ⟨hl, .snapMismatch p htag⟩
  | release => exact .inl (live h .release)
  | malformed n w => cases h

/-- A step of a living core with a request presented has the effect of that request. -/
theorem effect_of_step {rest : List Request} (hl : s.life = .live) (hin : s.inbox = r :: rest) (h : step s = .next t) :
    Effect { s with inbox := rest } r t := by
  rw [step_cons hin] at h
  obtain ⟨-, e⟩ | ⟨_, _, _, hu, _⟩ := effect_of_perform h
  · exact e
  · exact absurd (hl.symm.trans hu) (by decide)

/-- A memory access is one of four accesses (40 R130, R131): through an open PCG window, to an intercepted register, to the flash
in the low window, or through the Bank Map with some wait count. -/
theorem memAccess_cases {P : State → Prop} {acc : Access} {a : Addr}
    (pcgwin : inPcgWin s.cfg s.latch a = true → P (s.accPcgwin acc a))
    (mmio : ∀ k, intercepted s.cfg s.latch a = some k → P (s.accMmio acc k))
    (bootflash : inBoot s.latch a = true → s.cfg.hasFlash = true → P (s.accBootflash acc (low12 a)))
    (window : ∀ b n, P (s.winAccess acc b n)) : P (s.memAccess acc a) := by
  unfold State.memAccess
  split
  · next h => exact pcgwin h
  split
  · next k h => exact mmio k h
  split
  · next h =>
    split
    · next hf => exact bootflash h hf
    · exact window (bootAddr (low12 a)) 1
  split
  · exact window (vramAddr (low12 a)) (vramWait s.cfg s.raster)
  · exact window a 0

/-- The edge of a control byte stores in the PCG buffer and changes nothing else (40 R138). -/
theorem pcgPortWrite_frame (d : Byte) : s.pcgPortWrite d = { s with mems.pcg := (s.pcgPortWrite d).mems.pcg } := by
  unfold State.pcgPortWrite
  simp only
  split <;> rfl

/-- An intercepted access changes the PCG port's registers, the PCG buffer and what is said to the outside, and nothing else
(40 R132, R133, R135 to R138). -/
theorem accMmio_frame (acc : Access) (k : MmioClass) : s.accMmio acc k =
    { s with latch := (s.accMmio acc k).latch, mems.pcg := (s.accMmio acc k).mems.pcg, result := (s.accMmio acc k).result,
             periph := (s.accMmio acc k).periph, draws := (s.accMmio acc k).draws } := by
  cases k with
  | pio k | pit k => cases acc <;> rfl
  | aux => cases acc <;> rfl
  | pcgwData =>
    cases acc with
    | read => rfl
    | write v => simp only [State.accMmio, State.accPcgwData, State.setPcgData]; split <;> rfl
  | pcgwAddr =>
    cases acc with
    | read => rfl
    | write v => simp only [State.accMmio, State.accPcgwAddr, State.setPcgAddr]; split <;> rfl
  | pcgwCtrl =>
    cases acc with
    | read => rfl
    | write d =>
      simp only [State.accMmio, State.accPcgwCtrl, State.setPcgCtrl]
      rw [pcgPortWrite_frame]
      split <;> rfl

/-! ## The fields a port write, a window write and a flash operation leave alone -/

@[simp] theorem State.portWrite_cfg (p : Port) (v : Byte) : (s.portWrite p v).cfg = s.cfg := by rw [portWrite_frame]
@[simp] theorem State.portWrite_mems (p : Port) (v : Byte) : (s.portWrite p v).mems = s.mems := by rw [portWrite_frame]
@[simp] theorem State.portWrite_raster (p : Port) (v : Byte) : (s.portWrite p v).raster = s.raster := by rw [portWrite_frame]
@[simp] theorem State.portWrite_trace (p : Port) (v : Byte) : (s.portWrite p v).trace = s.trace := by rw [portWrite_frame]

@[simp] theorem State.winWrite_raster (a : Addr) (v : Byte) : (s.winWrite a v).raster = s.raster := by rw [winWrite_frame]
@[simp] theorem State.winWrite_trace (a : Addr) (v : Byte) : (s.winWrite a v).trace = s.trace := by rw [winWrite_frame]

@[simp] theorem State.flashRead_cfg (fa : Nat) : (s.flashRead fa).1.cfg = s.cfg := by rw [flashRead_state]
@[simp] theorem State.flashRead_mems (fa : Nat) : (s.flashRead fa).1.mems = s.mems := by rw [flashRead_state]
@[simp] theorem State.flashRead_raster (fa : Nat) : (s.flashRead fa).1.raster = s.raster := by rw [flashRead_state]
@[simp] theorem State.flashRead_trace (fa : Nat) : (s.flashRead fa).1.trace = s.trace := by rw [flashRead_state]

@[simp] theorem State.flashWrite_cfg (fa : Nat) (v : Byte) : (s.flashWrite fa v).cfg = s.cfg := by rw [flashWrite_frame]
@[simp] theorem State.flashWrite_raster (fa : Nat) (v : Byte) : (s.flashWrite fa v).raster = s.raster := by
  rw [flashWrite_frame]
@[simp] theorem State.flashWrite_trace (fa : Nat) (v : Byte) : (s.flashWrite fa v).trace = s.trace := by
  rw [flashWrite_frame]

/-! ## The raster group after a drive and after each event -/

/-- Only a core with the overlay is ever stalled (41 R186). -/
theorem overlay_of_stall {c : Config} {q : Raster} (h : RasterOk c q) (hs : q.stall = true) : c.overlay = true := by
  obtain ⟨-, -, -, -, -, -, -, -, hst⟩ := h
  exact (hst hs).1

/-- Setting a flag to the level it has changes nothing. -/
theorem withLevel_same {q : Raster} {g : Sig} {v : Bool} (h : sigLevel q g = v) : withLevel q g v = q := by
  subst h
  cases g <;> rfl

/-- A drive sets its flag, but for the stall of a core without the overlay. -/
theorem drive_raster (g : Sig) (v : Bool) (h : g = .busreq → s.cfg.overlay = true) :
    (s.drive g v).raster = withLevel s.raster g v := by
  by_cases e : sigLevel s.raster g = v
  · rw [drive_same e, withLevel_same e]
  · rw [drive_change e h]

@[simp] theorem drive_hblank_raster (v : Bool) : (s.drive .hblank v).raster = { s.raster with hblank := v } :=
  drive_raster .hblank v nofun
@[simp] theorem drive_hsync_raster (v : Bool) : (s.drive .hsync v).raster = { s.raster with hsync := v } :=
  drive_raster .hsync v nofun
@[simp] theorem drive_vblank_raster (v : Bool) : (s.drive .vblank v).raster = { s.raster with vblank := v } :=
  drive_raster .vblank v nofun
@[simp] theorem drive_vsync_raster (v : Bool) : (s.drive .vsync v).raster = { s.raster with vsync := v } :=
  drive_raster .vsync v nofun

theorem releaseStall_raster (h : s.cfg.overlay = true) : s.releaseStall.raster = { s.raster with stall := false } :=
  drive_raster .busreq false fun _ => h

@[simp] theorem hblankStart_raster : s.hblankStart.raster = { s.raster with hblank := true, blankVram := true } := by
  simp [State.hblankStart]
@[simp] theorem hblankEnd_raster : s.hblankEnd.raster = { s.raster with hblank := false } := by simp [State.hblankEnd]
@[simp] theorem hsyncStart_raster : s.hsyncStart.raster = { s.raster with hsync := true } := by simp [State.hsyncStart]
@[simp] theorem hsyncEnd_raster : s.hsyncEnd.raster = { s.raster with hsync := false } := by simp [State.hsyncEnd]

theorem pcgWindow_raster (h : s.cfg.overlay = true) :
    s.pcgWindow.raster = { s.raster with pcgSafe := true, stall := false } := by
  unfold State.pcgWindow
  rw [if_pos h, releaseStall_raster (by exact h)]

/-- The first half of EV_NEWLINE (41 R172): the vertical flags of the new line, and the horizontal flags low. -/
def State.lineFlags (s : State) : State :=
  let u := (((s.drive .vblank (vblankAt s.raster.line)).drive .vsync (vsyncAt s.cfg.timing s.raster.line)).drive .hblank
    false).drive .hsync false
  { u with raster.blankVram := false }

/-- With the overlay EV_NEWLINE closes the safe window and releases the stall. -/
def State.closeWindow (s : State) : State := if s.cfg.overlay then { s with raster.pcgSafe := false }.releaseStall else s

/-- EV_NEWLINE ends with the rendering of a visible line. -/
def State.drawVisible (s : State) : State := if s.raster.line < visibleLines then s.drawLine s.raster.line else s

theorem newline_eq : s.newline = s.lineFlags.closeWindow.drawVisible := by
  simp only [State.newline, State.lineFlags, State.closeWindow, State.drawVisible, State.drive_cfg, drive_vblank_raster]

@[simp] theorem lineFlags_raster : s.lineFlags.raster =
    { s.raster with vblank := vblankAt s.raster.line, vsync := vsyncAt s.cfg.timing s.raster.line, hblank := false,
                    hsync := false, blankVram := false } := by
  simp [State.lineFlags]

@[simp] theorem closeWindow_raster : s.closeWindow.raster =
    { s.raster with pcgSafe := s.raster.pcgSafe && !s.cfg.overlay, stall := s.raster.stall && !s.cfg.overlay } := by
  unfold State.closeWindow
  cases h : s.cfg.overlay with
  | false => simp
  | true => simp [releaseStall_raster (s := { s with raster.pcgSafe := false }) h]

@[simp] theorem drawVisible_raster : s.drawVisible.raster = s.raster := by
  unfold State.drawVisible
  split <;> rfl

@[simp] theorem lineFlags_cfg : s.lineFlags.cfg = s.cfg := by simp [State.lineFlags]

/-- EV_NEWLINE recomputes the vertical flags and lowers the others; the safe window and the stall are the overlay's (41 R172). -/
theorem newline_raster : s.newline.raster =
    { s.raster with
      vblank := vblankAt s.raster.line, vsync := vsyncAt s.cfg.timing s.raster.line, hblank := false, hsync := false,
      blankVram := false, pcgSafe := s.raster.pcgSafe && !s.cfg.overlay, stall := s.raster.stall && !s.cfg.overlay } := by
  simp [newline_eq]

/-! ## Frames of the events -/

/-- The raster group and the trace may differ, and nothing else. -/
def RasterOnly (s t : State) : Prop := t = { s with raster := t.raster, trace := t.trace }

theorem RasterOnly.refl (s : State) : RasterOnly s s := rfl

theorem rasterOnly_with_raster (q : Raster) : RasterOnly s { s with raster := q } := rfl

theorem RasterOnly.trans (h : RasterOnly s t) (h' : RasterOnly t u) : RasterOnly s u := by
  unfold RasterOnly at *
  rw [h', h]

theorem rasterOnly_drive (g : Sig) (v : Bool) : RasterOnly s (s.drive g v) := drive_frame g v

theorem rasterOnly_at {hit : Bool} {ev : State → State} (h : RasterOnly s (ev s)) : RasterOnly s (s.at hit ev) := by
  unfold State.at
  split
  · exact h
  · exact .refl s

theorem rasterOnly_hblankStart : RasterOnly s s.hblankStart := (rasterOnly_drive .hblank true).trans rfl
theorem rasterOnly_hblankEnd : RasterOnly s s.hblankEnd := rasterOnly_drive .hblank false
theorem rasterOnly_hsyncStart : RasterOnly s s.hsyncStart := rasterOnly_drive .hsync true
theorem rasterOnly_hsyncEnd : RasterOnly s s.hsyncEnd := rasterOnly_drive .hsync false

theorem rasterOnly_lineFlags : RasterOnly s s.lineFlags :=
  ((((rasterOnly_drive _ _).trans (rasterOnly_drive _ _)).trans (rasterOnly_drive _ _)).trans (rasterOnly_drive _ _)).trans rfl

theorem rasterOnly_closeWindow : RasterOnly s s.closeWindow := by
  unfold State.closeWindow
  split
  · exact (rasterOnly_with_raster { s.raster with pcgSafe := false }).trans (rasterOnly_drive .busreq false)
  · exact .refl s

theorem rasterOnly_pcgWindow : RasterOnly s s.pcgWindow := by
  unfold State.pcgWindow
  split
  · exact (rasterOnly_with_raster { s.raster with pcgSafe := true }).trans (rasterOnly_drive .busreq false)
  · exact .refl s

theorem RasterOnly.cfg (h : RasterOnly s t) : t.cfg = s.cfg := by rw [h]

theorem at_hblankStart_cfg (hit : Bool) : (s.at hit State.hblankStart).cfg = s.cfg :=
  (rasterOnly_at rasterOnly_hblankStart).cfg
theorem at_hblankEnd_cfg (hit : Bool) : (s.at hit State.hblankEnd).cfg = s.cfg :=
  (rasterOnly_at rasterOnly_hblankEnd).cfg
theorem at_hsyncStart_cfg (hit : Bool) : (s.at hit State.hsyncStart).cfg = s.cfg :=
  (rasterOnly_at rasterOnly_hsyncStart).cfg
theorem at_hsyncEnd_cfg (hit : Bool) : (s.at hit State.hsyncEnd).cfg = s.cfg :=
  (rasterOnly_at rasterOnly_hsyncEnd).cfg

/-- A TICK inside a line is the count and the events whose offset is reached (41 R171). -/
theorem tick_of_inside (h : s.raster.hcnt + 1 ≠ s.cfg.timing.cpl) : s.tick =
    let n := s.raster.hcnt + 1
    let g := s.cfg.timing
    (((((State.at { s with raster.hcnt := n } (n == g.tHbs) State.hblankStart).at (n == g.tHbe) State.hblankEnd).at
      (n == g.tHss) State.hsyncStart).at (n == g.tHse) State.hsyncEnd).at (s.cfg.overlay && n == g.tPcg) State.pcgWindow) := by
  simp only [State.tick, h, if_false, at_hblankStart_cfg, at_hblankEnd_cfg, at_hsyncStart_cfg, at_hsyncEnd_cfg]

/-- A TICK inside a line touches no frame line. -/
theorem rasterOnly_tick (h : s.raster.hcnt + 1 ≠ s.cfg.timing.cpl) : RasterOnly s s.tick := by
  rw [tick_of_inside h]
  refine (rasterOnly_with_raster { s.raster with hcnt := s.raster.hcnt + 1 }).trans ?_
  exact ((((rasterOnly_at rasterOnly_hblankStart).trans (rasterOnly_at rasterOnly_hblankEnd)).trans
    (rasterOnly_at rasterOnly_hsyncStart)).trans (rasterOnly_at rasterOnly_hsyncEnd)).trans
    (rasterOnly_at rasterOnly_pcgWindow)

/-- A TICK at the end of a line is EV_NEWLINE after the counters have moved on (41 R171). -/
theorem tick_of_wrap (h : s.raster.hcnt + 1 = s.cfg.timing.cpl) : s.tick
    = State.newline { s with raster.hcnt := 0, raster.line := (s.raster.line + 1) % s.cfg.timing.lpf } := by
  unfold State.tick
  simp only [h, if_true]

/-- One TICK changes the raster group, the trace and the renderer's buffers only. -/
theorem tick_frame : s.tick = { s with raster := s.tick.raster, trace := s.tick.trace, video := s.tick.video } := by
  by_cases h : s.raster.hcnt + 1 = s.cfg.timing.cpl
  · rw [tick_of_wrap h, newline_frame]
  · have hr := rasterOnly_tick h
    unfold RasterOnly at hr
    rw [hr]

@[simp] theorem State.tick_cfg : s.tick.cfg = s.cfg := by rw [tick_frame]
@[simp] theorem State.tick_mems : s.tick.mems = s.mems := by rw [tick_frame]

/-! ## The configuration and the ROMs -/

/-- The configuration and the three ROMs are the same. -/
structure SameRoms (s t : State) : Prop where
  cfg : t.cfg = s.cfg
  ipl : t.mems.ipl = s.mems.ipl
  cgrom : t.mems.cgrom = s.mems.cgrom
  ext : t.mems.ext = s.mems.ext

theorem SameRoms.of_mems (hc : t.cfg = s.cfg) (hm : t.mems = s.mems) : SameRoms s t :=
  ⟨hc, by rw [hm], by rw [hm], by rw [hm]⟩

theorem SameRoms.answer (h : SameRoms s t) (x : Result) : SameRoms s (t.answer x) := ⟨h.cfg, h.ipl, h.cgrom, h.ext⟩

theorem SameRoms.trans (h : SameRoms s t) (h' : SameRoms t u) : SameRoms s u :=
  ⟨h'.cfg.trans h.cfg, h'.ipl.trans h.ipl, h'.cgrom.trans h.cgrom, h'.ext.trans h.ext⟩

/-- A byte stored in a buffer that is no ROM. -/
theorem sameRoms_poke {b : Buffer} (h : b ∉ [Buffer.ipl, .cgrom, .ext]) (off : Nat) (v : Byte) :
    SameRoms s (s.poke b off v) := by
  cases b
  case ipl | cgrom | ext => exact absurd (by decide) h
  all_goals exact ⟨rfl, rfl, rfl, rfl⟩

/-- The Bank Map gives no ROM as a sink (20 R70). -/
theorem sameRoms_winWrite (a : Addr) (v : Byte) : SameRoms s (s.winWrite a v) := by
  rw [winWrite_eq]
  split
  · exact .of_mems rfl rfl
  · next b off ht => exact sameRoms_poke (by rcases winTarget_writable ht with rfl | rfl | rfl <;> decide) off v

theorem sameRoms_winAccess (acc : Access) (a : Addr) (n : Nat) : SameRoms s (s.winAccess acc a n) := by
  cases acc with
  | read => exact .of_mems rfl rfl
  | write v => exact (sameRoms_winWrite a v).answer _

theorem sameRoms_accMmio (acc : Access) (k : MmioClass) : SameRoms s (s.accMmio acc k) := by
  rw [accMmio_frame]
  exact ⟨rfl, rfl, rfl, rfl⟩

theorem sameRoms_flashWrite (fa : Nat) (v : Byte) : SameRoms s (s.flashWrite fa v) := by
  rw [flashWrite_frame]
  exact ⟨rfl, rfl, rfl, rfl⟩

theorem sameRoms_accBootflash (acc : Access) (off : BitVec 12) : SameRoms s (s.accBootflash acc off) := by
  cases acc with
  | read => exact (SameRoms.of_mems (by simp) (by simp)).answer _
  | write v => exact (sameRoms_flashWrite _ v).answer _

theorem sameRoms_memAccess (acc : Access) (a : Addr) : SameRoms s (s.memAccess acc a) :=
  memAccess_cases
    (fun _ => (SameRoms.of_mems (by simp) (by simp)).trans (sameRoms_winAccess acc a 0))
    (fun k _ => sameRoms_accMmio acc k)
    (fun _ _ => sameRoms_accBootflash acc _)
    (fun b n => sameRoms_winAccess acc b n)

theorem sameRoms_resetCore : SameRoms s s.resetCore := .of_mems (by simp [State.resetCore]) (by simp [State.resetCore])

/-- A load writes the PCG buffer, the RAM, the VRAM and the flash store (44 R302). -/
theorem sameRoms_restore (p : Snapshot) : SameRoms s (s.restore p) := by
  unfold State.restore
  constructor <;> simp

/-- No request answered by a living core changes the configuration or a ROM. -/
theorem Effect.sameRoms (h : Effect s r t) : SameRoms s t := by
  cases h with
  | memRead tc => exact sameRoms_memAccess .read _
  | memWrite tc => exact sameRoms_memAccess (.write _) _
  | portRead | snapSave | snapMismatch | release | present => exact .of_mems rfl rfl
  | portWrite tc => exact (SameRoms.of_mems (by simp) (by simp)).answer _
  | flashRd fa => exact (SameRoms.of_mems (by simp) (by simp)).answer _
  | flashWr fa v => exact (sameRoms_flashWrite _ v).answer _
  | tick => exact (SameRoms.of_mems (by simp) (by simp)).answer _
  | tempo | blink => exact (SameRoms.of_mems (by simp) (by simp)).answer _
  | reset => exact sameRoms_resetCore.answer _
  | snapLoad p => exact (sameRoms_restore p).answer _

/-- Settles O11, by the kinds of request. -/
theorem configurationAndRomsAreFixed : Obligations.ConfigurationAndRomsAreFixed := by
  intro s t hl h
  cases hin : s.inbox with
  | nil =>
    rw [step_nil hin] at h
    cases h
    exact ⟨rfl, rfl, rfl, rfl⟩
  | cons r rest =>
    obtain ⟨hcfg, hipl, hcg, hext⟩ := (effect_of_step hl hin h).sameRoms
    exact ⟨hcfg, hipl, hcg, hext⟩

/-! ## The signal trace -/

/-- What was appended to the trace holds the level changes of each signal: it starts from the level of the flag before, repeats no
level and ends at the level of the flag after (00 R13, 60 R323). -/
def Traced (s t : State) : Prop :=
  ∃ evs, t.trace = s.trace ++ evs ∧ ∀ g, replay g (sigLevel s.raster g) evs = some (sigLevel t.raster g)

/-- Replaying two lists of records one after the other. -/
theorem replay_append (g : Sig) (b : Bool) (xs ys : List (Sig × Bool)) :
    replay g b (xs ++ ys) = (replay g b xs).bind fun c => replay g c ys := by
  induction xs generalizing b with
  | nil => rfl
  | cons x xs ih =>
    obtain ⟨h, v⟩ := x
    simp only [List.cons_append, replay]
    split_ifs
    · rfl
    · exact ih v
    · exact ih b

/-- Nothing appended and every level kept. -/
theorem Traced.of_levels (ht : t.trace = s.trace) (hr : ∀ g, sigLevel t.raster g = sigLevel s.raster g) : Traced s t :=
  ⟨[], by simpa using ht, fun g => congrArg some (hr g).symm⟩

theorem Traced.of_raster (ht : t.trace = s.trace) (hr : t.raster = s.raster) : Traced s t := .of_levels ht fun _ => by rw [hr]

theorem Traced.refl (s : State) : Traced s s := .of_raster rfl rfl

theorem Traced.trans (h : Traced s t) (h' : Traced t u) : Traced s u := by
  obtain ⟨xs, hxs, hx⟩ := h
  obtain ⟨ys, hys, hy⟩ := h'
  refine ⟨xs ++ ys, by rw [hys, hxs, List.append_assoc], fun g => ?_⟩
  rw [replay_append, hx g]
  exact hy g

theorem Traced.answer (h : Traced s t) (x : Result) : Traced s (t.answer x) := h

/-- A drive appends the record of its level change, if there is one. -/
theorem traced_drive (g : Sig) (v : Bool) : Traced s (s.drive g v) := by
  unfold State.drive
  split
  · exact .refl s
  · next h =>
    have hne : v ≠ sigLevel s.raster g := fun e => h (.inl e.symm)
    refine ⟨[(g, v)], rfl, fun g' => ?_⟩
    by_cases e : g = g'
    · subst e
      simp [replay, hne]
    · simp [replay, e, Ne.symm e]

theorem traced_at {hit : Bool} {ev : State → State} (h : Traced s (ev s)) : Traced s (s.at hit ev) := by
  unfold State.at
  split
  · exact h
  · exact .refl s

theorem traced_pcgStallCheck : Traced s s.pcgStallCheck := by
  unfold State.pcgStallCheck
  split
  · exact traced_drive .busreq true
  · exact .refl s

theorem traced_winAccess (acc : Access) (a : Addr) (n : Nat) : Traced s (s.winAccess acc a n) := by
  cases acc with
  | read => exact .refl s
  | write v => exact (Traced.of_raster (by simp) (by simp)).answer _

theorem traced_accMmio (acc : Access) (k : MmioClass) : Traced s (s.accMmio acc k) := by
  rw [accMmio_frame]
  exact .of_raster rfl rfl

theorem traced_accBootflash (acc : Access) (off : BitVec 12) : Traced s (s.accBootflash acc off) := by
  cases acc <;> exact (Traced.of_raster (by simp) (by simp)).answer _

theorem traced_memAccess (acc : Access) (a : Addr) : Traced s (s.memAccess acc a) :=
  memAccess_cases
    (fun _ => traced_pcgStallCheck.trans (traced_winAccess acc a 0))
    (fun k _ => traced_accMmio acc k)
    (fun _ _ => traced_accBootflash acc _)
    (fun b n => traced_winAccess acc b n)

/-- `BLANK_VRAM` and `PCG_SAFE` are no signals. -/
theorem Traced.with_blankVram (h : Traced s t) (b : Bool) : Traced s { t with raster.blankVram := b } :=
  h.trans (.of_levels rfl fun g => by cases g <;> rfl)

theorem Traced.with_pcgSafe (h : Traced s t) (b : Bool) : Traced s { t with raster.pcgSafe := b } :=
  h.trans (.of_levels rfl fun g => by cases g <;> rfl)

theorem traced_pcgWindow : Traced s s.pcgWindow := by
  unfold State.pcgWindow
  split
  · exact ((Traced.refl s).with_pcgSafe true).trans (traced_drive .busreq false)
  · exact .refl s

theorem traced_lineFlags : Traced s s.lineFlags :=
  ((((traced_drive _ _).trans (traced_drive _ _)).trans (traced_drive _ _)).trans (traced_drive _ _)).with_blankVram false

theorem traced_closeWindow : Traced s s.closeWindow := by
  unfold State.closeWindow
  split
  · exact ((Traced.refl s).with_pcgSafe false).trans (traced_drive .busreq false)
  · exact .refl s

theorem traced_drawVisible : Traced s s.drawVisible := by
  unfold State.drawVisible
  split <;> exact .of_raster rfl rfl

theorem traced_newline : Traced s s.newline := by
  rw [newline_eq]
  exact (traced_lineFlags.trans traced_closeWindow).trans traced_drawVisible

theorem traced_tick : Traced s s.tick := by
  by_cases h : s.raster.hcnt + 1 = s.cfg.timing.cpl
  · rw [tick_of_wrap h]
    refine Traced.trans (.of_levels rfl fun g => ?_) traced_newline
    cases g <;> rfl
  · rw [tick_of_inside h]
    refine Traced.trans (t := { s with raster.hcnt := s.raster.hcnt + 1 }) (.of_levels rfl fun g => by cases g <;> rfl) ?_
    exact ((((traced_at ((traced_drive .hblank true).with_blankVram true)).trans (traced_at (traced_drive .hblank false))).trans
      (traced_at (traced_drive .hsync true))).trans (traced_at (traced_drive .hsync false))).trans (traced_at traced_pcgWindow)

/-- RESET drops the signals in the order of 70 R351, the stall last. -/
def State.dropSignals (s : State) : State :=
  [Sig.hblank, .hsync, .vblank, .vsync, .tempo, .blink, .busreq].foldl (fun u g => u.drive g false) s

theorem resetCore_eq : s.resetCore
    = { s.dropSignals with latch := Latch.powerOn, raster := Raster.powerOn, flash := FlashRegs.powerOn } := by
  simp only [State.resetCore, State.releaseStall, State.dropSignals, List.foldl]

theorem traced_dropSignals : Traced s s.dropSignals :=
  List.foldlRecOn _ _ (.refl s) fun _ hu _ _ => hu.trans (traced_drive _ false)

/-- After the drops every level is low: without the overlay the stall was never up. -/
theorem sigLevel_dropSignals (h : s.raster.stall = true → s.cfg.overlay = true) (g : Sig) :
    sigLevel s.dropSignals.raster g = false := by
  have hst : s.cfg.overlay = false → s.raster.stall = false := by simpa using mt h
  simp only [State.dropSignals, List.foldl, sigLevel_drive, State.drive_cfg]
  cases g <;> simp
  exact hst

theorem traced_resetCore (h : s.raster.stall = true → s.cfg.overlay = true) : Traced s s.resetCore := by
  rw [resetCore_eq]
  refine traced_dropSignals.trans (.of_levels rfl fun g => ?_)
  rw [sigLevel_dropSignals h]
  cases g <;> rfl

/-- Every request answered by a living core but a load, which re-emits `BUSREQ` alone, records its level changes. -/
theorem Effect.traced (h : Effect s r t) (hstall : s.raster.stall = true → s.cfg.overlay = true)
    (hr : ∀ p, r ≠ .snapLoad p) : Traced s t := by
  cases h with
  | memRead tc => exact traced_memAccess .read _
  | memWrite tc => exact traced_memAccess (.write _) _
  | portRead | snapSave | release | present => exact .refl s
  | portWrite tc => exact (Traced.of_raster (by simp) (by simp)).answer _
  | flashRd fa => exact (Traced.of_raster (by simp) (by simp)).answer _
  | flashWr fa v => exact (Traced.of_raster (by simp) (by simp)).answer _
  | tick => exact traced_tick
  | tempo | blink => exact traced_drive _ _
  | reset => exact traced_resetCore hstall
  | snapLoad p | snapMismatch p => exact absurd rfl (hr p)

/-- Settles O15, by the kinds of request: each is a chain of drives and of updates that touch no level. -/
theorem traceHoldsTheLevelChanges : Obligations.TraceHoldsTheLevelChanges := by
  intro s t hl hg h hnoLoad
  cases hin : s.inbox with
  | nil =>
    rw [step_nil hin] at h
    cases h
    exact Traced.refl s
  | cons r rest =>
    exact (effect_of_step hl hin h).traced (overlay_of_stall hg.rasterOk) fun p e => hnoLoad p rest (by rw [hin, e])

/-! ## One TICK -/

theorem tvTable_eq (c : Config) : tvTable c = c.timing := by
  unfold tvTable Config.timing
  cases c.tv <;> rfl

/-! The raster group after an event that is performed or not. -/

theorem at_hblankStart_raster (hit : Bool) : (s.at hit State.hblankStart).raster =
    { s.raster with hblank := hit || s.raster.hblank, blankVram := hit || s.raster.blankVram } := by
  cases hit <;> simp [State.at]

theorem at_hblankEnd_raster (hit : Bool) :
    (s.at hit State.hblankEnd).raster = { s.raster with hblank := !hit && s.raster.hblank } := by
  cases hit <;> simp [State.at]

theorem at_hsyncStart_raster (hit : Bool) :
    (s.at hit State.hsyncStart).raster = { s.raster with hsync := hit || s.raster.hsync } := by
  cases hit <;> simp [State.at]

theorem at_hsyncEnd_raster (hit : Bool) :
    (s.at hit State.hsyncEnd).raster = { s.raster with hsync := !hit && s.raster.hsync } := by
  cases hit <;> simp [State.at]

theorem at_pcgWindow_raster (hit : Bool) (h : hit = true → s.cfg.overlay = true) : (s.at hit State.pcgWindow).raster =
    { s.raster with pcgSafe := hit || s.raster.pcgSafe, stall := s.raster.stall && !hit } := by
  cases hit with
  | false => simp [State.at]
  | true => simp [State.at, pcgWindow_raster (h rfl)]

theorem hblankAt_eq (t : Timing) (n : Nat) : hblankAt t n = decide (t.tHbs ≤ n ∧ n < t.tHbe) := (Bool.decide_and ..).symm
theorem hsyncAt_eq (t : Timing) (n : Nat) : hsyncAt t n = decide (t.tHss ≤ n ∧ n < t.tHse) := (Bool.decide_and ..).symm
theorem vsyncAt_eq (t : Timing) (l : Nat) : vsyncAt t l = decide (t.vsStart ≤ l ∧ l < t.vsEnd) := (Bool.decide_and ..).symm

/-- A flag that rises where the count enters a window and falls where it leaves it is up exactly inside it. -/
theorem windowFlag_succ {lo hi n : Nat} (h : lo < hi) : (decide (lo ≤ n + 1) && decide (n + 1 < hi))
    = (!(n + 1 == hi) && ((n + 1 == lo) || (decide (lo ≤ n) && decide (n < hi)))) := by
  rw [Bool.eq_iff_iff]
  simp only [decide_eq_true_eq, Bool.and_eq_true, Bool.or_eq_true, Bool.not_eq_true', beq_eq_false_iff_ne, beq_iff_eq]
  omega

/-- A flag that rises at a count and stays is up exactly from there on. -/
theorem risenFlag_succ {lo n : Nat} : decide (lo ≤ n + 1) = ((n + 1 == lo) || decide (lo ≤ n)) := by
  rw [Bool.eq_iff_iff]
  simp only [decide_eq_true_eq, Bool.or_eq_true, beq_iff_eq]
  omega

theorem hblankAt_succ {t : Timing} (h : t.tHbs < t.tHbe) (n : Nat) :
    hblankAt t (n + 1) = (!(n + 1 == t.tHbe) && ((n + 1 == t.tHbs) || hblankAt t n)) := windowFlag_succ h

theorem hsyncAt_succ {t : Timing} (h : t.tHss < t.tHse) (n : Nat) :
    hsyncAt t (n + 1) = (!(n + 1 == t.tHse) && ((n + 1 == t.tHss) || hsyncAt t n)) := windowFlag_succ h

theorem blankVramAt_succ (t : Timing) (n : Nat) : blankVramAt t (n + 1) = ((n + 1 == t.tHbs) || blankVramAt t n) :=
  risenFlag_succ

theorem pcgSafeAt_succ (c : Config) (n : Nat) :
    pcgSafeAt c (n + 1) = ((c.overlay && (n + 1 == c.timing.tPcg)) || pcgSafeAt c n) := by
  rw [pcgSafeAt, risenFlag_succ, Bool.and_or_distrib_left, pcgSafeAt]

/-- The raster group after a TICK inside a line, event by event (41 R171, R174 to R177, R182). -/
theorem tick_raster_inside (h : s.raster.hcnt + 1 ≠ s.cfg.timing.cpl) : s.tick.raster =
    let n := s.raster.hcnt + 1
    let g := s.cfg.timing
    let hit := s.cfg.overlay && n == g.tPcg
    { s.raster with
      hcnt := n
      hblank := !(n == g.tHbe) && ((n == g.tHbs) || s.raster.hblank)
      hsync := !(n == g.tHse) && ((n == g.tHss) || s.raster.hsync)
      blankVram := (n == g.tHbs) || s.raster.blankVram
      pcgSafe := hit || s.raster.pcgSafe
      stall := s.raster.stall && !hit } := by
  rw [tick_of_inside h]
  simp only
  rw [at_pcgWindow_raster]
  · simp only [at_hsyncEnd_raster, at_hsyncStart_raster, at_hblankEnd_raster, at_hblankStart_raster]
  · intro hit
    simp only [at_hsyncEnd_cfg, at_hsyncStart_cfg, at_hblankEnd_cfg, at_hblankStart_cfg]
    exact (Bool.and_eq_true_iff.1 hit).1

/-- The flags of a TICK inside a line follow from the flags before it (41 R186). -/
theorem tick_raster_inside_of_ok (h : s.raster.hcnt + 1 ≠ s.cfg.timing.cpl) (hc : s.cfg.TimingOk)
    (hr : RasterOk s.cfg s.raster) : s.tick.raster =
      let n := s.raster.hcnt + 1
      { s.raster with
        hcnt := n, hblank := hblankAt s.cfg.timing n, hsync := hsyncAt s.cfg.timing n, blankVram := blankVramAt s.cfg.timing n
        pcgSafe := pcgSafeAt s.cfg n, stall := s.raster.stall && !decide (n = s.cfg.timing.tPcg) } := by
  have hov := overlay_of_stall hr
  obtain ⟨-, -, hhb, hhs, hbv, -, -, hps, -⟩ := hr
  obtain ⟨-, -, -, -, -, -, hbs, -, -, hss, -, -⟩ := timing_ok hc
  have hstall : (s.raster.stall && !(s.cfg.overlay && s.raster.hcnt + 1 == s.cfg.timing.tPcg))
      = (s.raster.stall && !decide (s.raster.hcnt + 1 = s.cfg.timing.tPcg)) := by
    cases e : s.raster.stall with
    | false => rfl
    | true => rw [hov e]; rfl
  rw [tick_raster_inside h]
  simp only [hhb, hhs, hbv, hps, hstall, hblankAt_succ hbs, hsyncAt_succ hss, blankVramAt_succ, pcgSafeAt_succ]

/-- At the end of a line the line counter moves on and every horizontal flag is low (41 R171, R172). -/
theorem tick_raster_wrap (h : s.raster.hcnt + 1 = s.cfg.timing.cpl) (hr : RasterOk s.cfg s.raster) : s.tick.raster =
    let l := (s.raster.line + 1) % s.cfg.timing.lpf
    { s.raster with
      line := l, hcnt := 0, hblank := false, hsync := false, vblank := vblankAt l, vsync := vsyncAt s.cfg.timing l
      blankVram := false, pcgSafe := false, stall := false } := by
  have hov := overlay_of_stall hr
  obtain ⟨-, -, -, -, -, -, -, hps, -⟩ := hr
  have hsafe : (s.raster.pcgSafe && !s.cfg.overlay) = false := by
    rw [hps, pcgSafeAt]
    cases s.cfg.overlay <;> simp
  have hstall : (s.raster.stall && !s.cfg.overlay) = false := by
    cases e : s.raster.stall with
    | false => rfl
    | true => simp [hov e]
  rw [tick_of_wrap h, newline_raster]
  simp only [hsafe, hstall]

/-- Every raster flag is low at the start of a line (00 R7: the windows start after clock 0). -/
theorem flags_low_at_zero {c : Config} (hc : c.TimingOk) : hblankAt c.timing 0 = false ∧ hsyncAt c.timing 0 = false
    ∧ blankVramAt c.timing 0 = false ∧ pcgSafeAt c 0 = false := by
  obtain ⟨-, -, -, -, -, hb, -, -, hs, -, -, hp⟩ := timing_ok hc
  refine ⟨?_, ?_, ?_, ?_⟩
  · simp [hblankAt, hb.ne']
  · simp [hsyncAt, hs.ne']
  · simp [blankVramAt, hb.ne']
  · cases e : c.overlay with
    | false => simp [pcgSafeAt, e]
    | true => simp [pcgSafeAt, (hp e).1.ne']

/-- The raster group after a TICK: the counters of 41 R171, and each flag the function of them that 41 R186 gives. -/
theorem tick_raster (hc : s.cfg.TimingOk) (hr : RasterOk s.cfg s.raster) : s.tick.raster =
    let wrap := decide (s.raster.hcnt + 1 = s.cfg.timing.cpl)
    let n := if wrap then 0 else s.raster.hcnt + 1
    let l := if wrap then (s.raster.line + 1) % s.cfg.timing.lpf else s.raster.line
    { s.raster with
      line := l, hcnt := n, hblank := hblankAt s.cfg.timing n, hsync := hsyncAt s.cfg.timing n, vblank := vblankAt l
      vsync := vsyncAt s.cfg.timing l, blankVram := blankVramAt s.cfg.timing n, pcgSafe := pcgSafeAt s.cfg n
      stall := s.raster.stall && !wrap && !decide (n = s.cfg.timing.tPcg) } := by
  by_cases h : s.raster.hcnt + 1 = s.cfg.timing.cpl
  · obtain ⟨hb, hs, hv, hp⟩ := flags_low_at_zero hc
    rw [tick_raster_wrap h hr]
    simp [h, hb, hs, hv, hp]
  · rw [tick_raster_inside_of_ok h hc hr]
    obtain ⟨-, -, -, -, -, hvb, hvs, -, -⟩ := hr
    simp [h, ← hvb, ← hvs]

/-- What a rendered line depends on (43 R275). -/
theorem renderedLine_congr (hc : t.cfg = s.cfg) (hl : t.latch = s.latch) (hm : t.mems = s.mems) (y : Nat) :
    t.renderedLine y = s.renderedLine y := by
  have ht : t = { t with cfg := s.cfg, latch := s.latch, mems := s.mems } := by rw [← hc, ← hl, ← hm]
  rw [ht]
  rfl

theorem drawLine_video_of_rasterOnly (h : RasterOnly s t) (y : Nat) : (t.drawLine y).video = (s.drawLine y).video := by
  unfold RasterOnly at h
  rw [State.drawLine_video, renderedLine_congr (s := s) (by rw [h]) (by rw [h]) (by rw [h]), h]
  rfl

/-- EV_NEWLINE draws the new line if it is visible (41 R172). -/
theorem newline_video : s.newline.video
    = if s.raster.line < visibleLines then (s.drawLine s.raster.line).video else s.video := by
  have hr : RasterOnly s s.lineFlags.closeWindow := rasterOnly_lineFlags.trans rasterOnly_closeWindow
  have hline : s.lineFlags.closeWindow.raster.line = s.raster.line := by simp
  rw [newline_eq, State.drawVisible, hline, apply_ite State.video, drawLine_video_of_rasterOnly hr]
  congr 1
  rw [hr]

/-- A TICK draws the new line, if it begins a visible one (41 R171, R172). -/
theorem tick_video : s.tick.video =
    let l := (s.raster.line + 1) % s.cfg.timing.lpf
    if s.raster.hcnt + 1 = s.cfg.timing.cpl ∧ l < visibleLines then (s.drawLine l).video else s.video := by
  by_cases h : s.raster.hcnt + 1 = s.cfg.timing.cpl
  · have hd : ∀ q y, (State.drawLine { s with raster := q } y).video = (s.drawLine y).video :=
      fun q y => drawLine_video_of_rasterOnly (rasterOnly_with_raster q) y
    rw [tick_of_wrap h, newline_video]
    simp only [hd, h, true_and]
  · have hr := rasterOnly_tick h
    unfold RasterOnly at hr
    rw [hr]
    simp [h]

/-- Settles O45: the flags before are the functions of the counters by the invariant, and each event moves them along. -/
theorem tickAdvancesTheRaster : Obligations.TickAdvancesTheRaster := by
  intro s hl hg
  obtain ⟨htime, -⟩ := hg.cfgOk
  simp only [tvTable_eq]
  refine ⟨s.tick.answer .done, whenLive_of_live hl, ?_, ?_, ?_⟩
  · rw [State.answer_raster, tick_raster htime hg.rasterOk]
    simp only [hblankAt_eq, hsyncAt_eq, vsyncAt_eq]
    rfl
  · rw [State.answer_video, tick_video]
    by_cases h : s.raster.hcnt + 1 = s.cfg.timing.cpl <;> simp [h, visibleLines]
  · conv_lhs => rw [tick_frame]
    rfl

end Sys2Proof.Machine
end

section
/-! SUPPORT. The statements of 10_state: the registers a core lacks, the writers of the Mode Latch, and the invariant that
every step keeps. -/

namespace Sys2Proof.Machine

variable {s t : State} {r : Request} {c : Config} {l : Latch} {a : Addr} {b : Buffer} {off fa w : Nat} {v : Byte}

/-! ## Registers a core lacks -/

theorem setPcgEn_absent (h : s.cfg.overlay = false) (x : Bool) : s.setPcgEn x = s := by simp [State.setPcgEn, h]
theorem setPcgBank_absent (h : s.cfg.overlay = false) (k : BitVec 2) : s.setPcgBank k = s := by simp [State.setPcgBank, h]
theorem setPriority_absent (h : s.cfg.overlay = false) (p : BitVec 2) : s.setPriority p = s := by
  simp [State.setPriority, h]
theorem pcgWindow_absent (h : s.cfg.overlay = false) : s.pcgWindow = s := by simp [State.pcgWindow, h]
theorem setBootPage_absent (h : s.cfg.hasFlash = false) (v : Byte) : s.setBootPage v = s := by simp [State.setBootPage, h]
theorem setPcgData_absent (h : s.cfg.hasPcgPort = false) (v : Byte) : s.setPcgData v = s := by simp [State.setPcgData, h]
theorem setPcgAddr_absent (h : s.cfg.hasPcgPort = false) (v : Byte) : s.setPcgAddr v = s := by simp [State.setPcgAddr, h]
theorem setPcgCtrl_absent (h : s.cfg.hasPcgPort = false) (v : Byte) : s.setPcgCtrl v = s := by simp [State.setPcgCtrl, h]
theorem pcgPortWrite_absent (h : s.cfg.hasPcgPort = false) (d : Byte) : s.pcgPortWrite d = s := by
  simp [State.pcgPortWrite, State.pcgStrobe, h]

/-- Opening the windows writes `PCG_EN` and `PCG_BANK`, which the overlay brings (40 R145). -/
theorem portPcgOpen_absent (h : s.cfg.overlay = false) (k : BitVec 2) : s.portPcgOpen k = s := by
  rw [State.portPcgOpen, setPcgEn_absent h, setPcgBank_absent h]

theorem pcgCtrlWrite_absent (h : s.cfg.hasPcgPort = false) (d : Byte) : (s.pcgPortWrite d).setPcgCtrl d = s := by
  rw [pcgPortWrite_absent h, setPcgCtrl_absent h]

/-- An operation whose writer writes nothing answers with its result alone. -/
theorem whenLive_answer_unchanged (hl : s.life = .live) (ht : t = s) (x : Result) :
    s.whenLive (t.answer x) = .next { s with result := x } := by
  rw [whenLive_of_live hl, ht, State.answer]

/-- Settles O34, writer by writer. -/
theorem absentRegistersAreHardWired : Obligations.AbsentRegistersAreHardWired := by
  intro s v k hl
  refine ⟨fun ho => ⟨?_, ?_, ?_, ?_⟩, fun hf => ?_, fun hp => ⟨?_, ?_, ?_⟩⟩
  · exact whenLive_answer_unchanged hl (portPcgOpen_absent ho k) .done
  · exact whenLive_answer_unchanged hl (setPcgEn_absent ho false) .done
  · exact whenLive_answer_unchanged hl (setPriority_absent ho k) .done
  · exact whenLive_answer_unchanged hl (pcgWindow_absent ho) .done
  · exact whenLive_answer_unchanged hl (setBootPage_absent hf v) .done
  · exact whenLive_answer_unchanged hl (setPcgData_absent hp v) (.memWrite 0)
  · exact whenLive_answer_unchanged hl (setPcgAddr_absent hp v) (.memWrite 0)
  · exact whenLive_answer_unchanged hl (pcgCtrlWrite_absent hp v) (.memWrite 0)

/-! ## Who writes the Mode Latch -/

@[simp] theorem State.winWrite_latch (a : Addr) (v : Byte) : (s.winWrite a v).latch = s.latch := by rw [winWrite_frame]
@[simp] theorem State.flashRead_latch (fa : Nat) : (s.flashRead fa).1.latch = s.latch := by rw [flashRead_state]
@[simp] theorem State.flashWrite_latch (fa : Nat) (v : Byte) : (s.flashWrite fa v).latch = s.latch := by
  rw [flashWrite_frame]
@[simp] theorem State.tick_latch : s.tick.latch = s.latch := by rw [tick_frame]

theorem winAccess_latch (acc : Access) (a : Addr) (n : Nat) : (s.winAccess acc a n).latch = s.latch := by
  cases acc with
  | read => rfl
  | write v => simp [winAccess_write]

/-- The registers that ports alone write are the same (10 R21, R22, R23, R25). -/
structure SameMode (l m : Latch) : Prop where
  mode : m.mode = l.mode
  pcgBank : m.pcgBank = l.pcgBank
  bootPage : m.bootPage = l.bootPage
  priority : m.priority = l.priority

theorem SameMode.of_eq {m : Latch} (h : m = l) : SameMode l m := by
  subst h
  exact ⟨rfl, rfl, rfl, rfl⟩

/-- A register of the PCG write port is no part of the Mode Latch (10 R24). -/
theorem sameMode_accMmio (acc : Access) (k : MmioClass) : SameMode s.latch (s.accMmio acc k).latch := by
  cases acc with
  | read => cases k <;> exact .of_eq rfl
  | write v =>
    cases k with
    | pio k | pit k => exact .of_eq rfl
    | aux => exact .of_eq rfl
    | pcgwData =>
      simp only [State.accMmio, State.accPcgwData, State.setPcgData]
      split <;> exact ⟨rfl, rfl, rfl, rfl⟩
    | pcgwAddr =>
      simp only [State.accMmio, State.accPcgwAddr, State.setPcgAddr]
      split <;> exact ⟨rfl, rfl, rfl, rfl⟩
    | pcgwCtrl =>
      simp only [State.accMmio, State.accPcgwCtrl, State.setPcgCtrl]
      rw [pcgPortWrite_frame]
      split <;> exact ⟨rfl, rfl, rfl, rfl⟩

theorem sameMode_memAccess (acc : Access) (a : Addr) : SameMode s.latch (s.memAccess acc a).latch :=
  memAccess_cases (P := fun t => SameMode s.latch t.latch)
    (fun _ => .of_eq ((winAccess_latch acc a 0).trans (State.pcgStallCheck_latch s)))
    (fun k _ => sameMode_accMmio acc k)
    (fun _ _ => .of_eq (by cases acc <;> simp [State.accBootflash]))
    (fun b n => .of_eq (winAccess_latch acc b n))

/-- Every request answered by a living core but a port write, RESET and a load leaves the Mode Latch alone. -/
theorem Effect.sameMode (h : Effect s r t) (hport : ∀ tc, r = .bus tc → tcKind tc ≠ 3) (hreset : r ≠ .reset)
    (hload : ∀ p, r ≠ .snapLoad p) : SameMode s.latch t.latch := by
  cases h with
  | memRead tc => exact sameMode_memAccess .read _
  | memWrite tc => exact sameMode_memAccess (.write _) _
  | portRead | snapSave | release | present => exact .of_eq rfl
  | portWrite tc hk => exact absurd (BitVec.eq_of_toNat_eq hk) (hport tc rfl)
  | flashRd | flashWr | tick | tempo | blink => exact .of_eq (by simp)
  | reset => exact absurd rfl hreset
  | snapLoad p | snapMismatch p => exact absurd rfl (hload p)

/-- Settles O12, by the kinds of request. -/
theorem modeIsWrittenByPortsOnly : Obligations.ModeIsWrittenByPortsOnly := by
  intro s t r h hport hreset hload hinit
  obtain ⟨-, e⟩ | ⟨c, im, hr, -⟩ := effect_of_perform h
  · obtain ⟨hmode, hbank, hpage, hprio⟩ := e.sameMode hport hreset hload
    exact ⟨hmode, hbank, hpage, hprio⟩
  · exact absurd hr (hinit c im)

/-! ## Sizes -/

/-- The flash is a whole number of sectors, and has some (00 R7). -/
theorem flashSize_eq (hc : c.Ok) (hf : c.hasFlash = true) : c.flashSize = c.pages * flashSector ∧ 0 < c.pages := by
  obtain ⟨-, -, ⟨-, -, -, -, -, hflash⟩, -, -⟩ := hc
  obtain ⟨hpow, hmin⟩ := hflash hf
  have hlog : 12 ≤ c.flashSize.log2 := (Nat.le_log2 (by omega)).2 (by omega)
  have hdvd : flashSector ∣ c.flashSize := by
    rw [hpow]
    exact Nat.pow_dvd_pow 2 hlog
  refine ⟨(Nat.div_mul_cancel hdvd).symm, Nat.div_pos ?_ (by decide)⟩
  unfold flashSector
  omega

theorem sectorOf_lt_pages (hc : c.Ok) (hf : c.hasFlash = true) (h : fa < c.flashSize) : sectorOf fa < c.pages := by
  rw [(flashSize_eq hc hf).1] at h
  exact Nat.div_lt_of_lt_mul (by rwa [Nat.mul_comm])

theorem maskFa_lt (hc : c.Ok) (hf : c.hasFlash = true) (fa : Nat) : maskFa c fa < c.flashSize := by
  obtain ⟨hsize, hpos⟩ := flashSize_eq hc hf
  refine Nat.mod_lt _ ?_
  unfold flashSector at hsize
  omega

/-- The low window lies inside the flash (40 R127). -/
theorem flashLocal_lt (hc : c.Ok) (hf : c.hasFlash = true) (hl : LatchOk c l) (off : BitVec 12) :
    flashLocal l.bootPage off < c.flashSize := by
  obtain ⟨hpage, -⟩ := hl
  rw [if_pos hf] at hpage
  have hoff := off.isLt
  rw [(flashSize_eq hc hf).1]
  unfold flashLocal flashSector
  omega

theorem overlay_of_hasPcgPort (h : c.hasPcgPort = true) : c.overlay = false := by
  unfold Config.hasPcgPort at h
  unfold Config.overlay
  cases hv : c.variant <;> simp_all

theorem pcgSize_of_overlay (hc : c.Ok) (h : c.overlay = true) : c.pcgSize = 0x6000 := by
  obtain ⟨-, -, ⟨-, -, -, hpcg, -, -⟩, -, -⟩ := hc
  rw [hpcg, if_pos h]

theorem pcgSize_of_hasPcgPort (hc : c.Ok) (h : c.hasPcgPort = true) : c.pcgSize = 0x1000 := by
  obtain ⟨-, -, ⟨-, -, -, hpcg, -, -⟩, -, -⟩ := hc
  simp [hpcg, overlay_of_hasPcgPort h]

/-! ## Windows -/

/-- The writable sinks of the Bank Map (40 R121): RAM at its own address, VRAM below `0xE000`, a PCG bank of the overlay. -/
theorem derive_sink (h : (derive c l w).wsink.buffer = some b) :
    b = .ram ∧ (derive c l w).woff = w * 0x800
      ∨ b = .vram ∧ w ≤ 27 ∧ (derive c l w).woff = (w - 26) * 0x800
      ∨ b = .pcg ∧ c.overlay = true ∧ w ≤ 29 ∧ (derive c l w).woff = (l.pcgBank.toNat - 1) * 0x2000 + (w - 26) * 0x800 := by
  unfold derive at h ⊢
  split_ifs at h ⊢ <;> simp_all [ramWindow, dummyWindow, romWindow, WriteSink.buffer, pcgOpen]

/-- No sink reaches outside its buffer (40 R122). -/
theorem sink_inside (hc : c.Ok) (hw : w < 32) (h : (derive c l w).wsink.buffer = some b) :
    (derive c l w).woff + 0x7FF < bufferSize c b := by
  have hbank := l.pcgBank.isLt
  obtain ⟨rfl, ho⟩ | ⟨rfl, hw, ho⟩ | ⟨rfl, hov, hw, ho⟩ := derive_sink h
  · simp only [ho, bufferSize, ramSize]
    omega
  · simp only [ho, bufferSize, vramSize]
    omega
  · simp only [ho, bufferSize, pcgSize_of_overlay hc hov]
    omega

/-- A window write stays inside its buffer, and the PCG buffer is a sink with the overlay only. -/
theorem winTarget_inside (hc : s.cfg.Ok) (h : s.winTarget a = some (b, off)) :
    off < bufferSize s.cfg b ∧ (b = .pcg → s.cfg.overlay = true) := by
  unfold State.winTarget at h
  simp only [Option.map_eq_some_iff, Prod.mk.injEq] at h
  obtain ⟨b', hb, rfl, rfl⟩ := h
  have ha := a.isLt
  have hin := sink_inside hc (by unfold windowIndex; omega) hb
  constructor
  · have hoff : windowOffset a < 0x800 := Nat.mod_lt _ (by decide)
    omega
  · rintro rfl
    obtain ⟨h, -⟩ | ⟨h, -⟩ | ⟨-, hov, -⟩ := derive_sink hb
    · cases h
    · cases h
    · exact hov

/-! ## The latch in its ranges -/

/-- The latch after INITIALIZE and after RESET is in its ranges (10 R35). -/
theorem latchOk_powerOn (hc : c.Ok) : LatchOk c Latch.powerOn := by
  refine ⟨?_, fun _ => by decide, fun _ => rfl, fun _ => rfl, fun _ => rfl⟩
  split
  · next hf => exact lt_min (flashSize_eq hc hf).2 (by decide)
  · decide

/-- Writing one bit of MODE leaves the others. -/
theorem getLsbD_modeWith (m : BitVec 3) {i j : Nat} (hj : j < 3) (x : Bool) :
    (modeWith m i x).getLsbD j = if j = i then x else m.getLsbD j := by
  have hbit : (1#3 <<< i).getLsbD j = decide (j = i) := by
    rw [BitVec.getLsbD_shiftLeft, BitVec.getLsbD_one, Bool.eq_iff_iff]
    simp only [Bool.and_eq_true, Bool.not_eq_true', decide_eq_true_eq, decide_eq_false_iff_not]
    omega
  unfold modeWith
  cases x with
  | false =>
    rw [if_neg (by decide), BitVec.getLsbD_and, BitVec.getLsbD_not, hbit]
    by_cases e : j = i <;> simp [e, hj]
  | true =>
    rw [if_pos rfl, BitVec.getLsbD_or, hbit]
    by_cases e : j = i <;> simp [e]

/-- A latch whose MODE changes stays in its ranges if `PCG_EN` stays 0 where it is absent. -/
theorem latchOk_mode {m : BitVec 3} (h : LatchOk c l) (hm : c.overlay = false → m.getLsbD 2 = false) :
    LatchOk c { l with mode := m } := by
  obtain ⟨hpage, hov, hports⟩ := h
  exact ⟨hpage, fun ho => ⟨hm ho, (hov ho).2⟩, hports⟩

/-- Writing another bit of MODE than `PCG_EN`. -/
theorem latchOk_modeWith {i : Nat} (h : LatchOk c l) (hi : 2 ≠ i) (x : Bool) :
    LatchOk c { l with mode := modeWith l.mode i x } := by
  obtain ⟨-, hov, -⟩ := id h
  refine latchOk_mode h fun ho => ?_
  rw [getLsbD_modeWith _ (by decide), if_neg hi]
  exact (hov ho).1

/-- Only the overlay has PCG windows (40 R125). -/
theorem overlay_of_inPcgWin (h : inPcgWin c l a = true) : c.overlay = true := by
  simp only [inPcgWin, pcgOpen, Bool.and_eq_true] at h
  obtain ⟨⟨⟨ho, -⟩, -⟩, -⟩ := h
  exact ho

/-! ## Intercepted registers of the PCG write port -/

/-- A register of the PCG write port that takes an address answers at its own address (40 R134). -/
theorem pcgPortAnswers_of_mmioClass {k : MmioClass} (h : mmioClass c a = some k) :
    (k = .pcgwData → pcgPortAnswers c c.mmio.pcgData k = true) ∧ (k = .pcgwAddr → pcgPortAnswers c c.mmio.pcgAddr k = true)
      ∧ (k = .pcgwCtrl → pcgPortAnswers c c.mmio.pcgCtrl k = true) := by
  have haddr : (k = .pcgwData → a = c.mmio.pcgData) ∧ (k = .pcgwAddr → a = c.mmio.pcgAddr)
      ∧ (k = .pcgwCtrl → a = c.mmio.pcgCtrl) := by
    unfold mmioClass at h
    split_ifs at h <;> simp_all [← Option.some.inj h]
  obtain ⟨hd, ha, hc⟩ := haddr
  simp only [pcgPortAnswers, beq_iff_eq]
  exact ⟨fun e => hd e ▸ h, fun e => ha e ▸ h, fun e => hc e ▸ h⟩

theorem mmioClass_of_intercepted {k : MmioClass} (h : intercepted c l a = some k) : mmioClass c a = some k := by
  unfold intercepted at h
  split at h
  · exact h
  · cases h

/-- A control byte stores where the port can write (40 R138): with no way to load `PCG_ADDR`, at multiples of `0x100`. -/
theorem pcgWritable_pcgPortOffset (hp : c.hasPcgPort = true) (hk : pcgPortAnswers c c.mmio.pcgCtrl .pcgwCtrl = true)
    (hl : LatchOk c l) (d : Byte) : pcgWritable c (pcgPortOffset d l.pcgAddr).toNat = true := by
  obtain ⟨-, -, -, haddr, -⟩ := hl
  unfold pcgWritable
  cases hans : pcgPortAnswers c c.mmio.pcgAddr .pcgwAddr with
  | true => simp [hp, hk]
  | false =>
    have hmod : (pcgPortOffset d l.pcgAddr).toNat % 0x100 = 0 := by
      rw [pcgPortOffset_toNat, haddr hans]
      split <;> simp
    simp [hp, hk, hmod]

/-! ## The renderer's buffers -/

variable {α : Type} [DecidableEq α] {fill : Nat → List α} {height width k : Nat} {m : Sparse (List α)}

omit [DecidableEq α] in
theorem planeOk_nil : PlaneOk fill height width ([] : Sparse (List α)) := ⟨Sparse.wf_nil, by simp⟩

/-- A line of the right width stored inside the buffer keeps it canonical. -/
theorem planeOk_set {x : List α} (h : PlaneOk fill height width m) (hk : k < height) (hx : x.length = width) :
    PlaneOk fill height width (Sparse.set fill m k x) := by
  obtain ⟨hwf, hlen⟩ := h
  refine ⟨Sparse.wf_set hwf hk, fun p hp => ?_⟩
  obtain ⟨rfl, -⟩ | hp := Sparse.mem_set hp
  · exact hx
  · exact hlen p hp

/-- The lines `f` gives at rising indices inside the buffer, each of the right width, make a canonical buffer whose entries
are among them. -/
theorem planeOk_foldr {f : Nat → List α} (hf : ∀ k, (f k).length = width) (ks : List Nat) (hks : ks.Pairwise (· < ·))
    (hlt : ∀ k ∈ ks, k < height) :
    PlaneOk fill height width (ks.foldr (fun k m => Sparse.cons fill k (f k) m) [])
      ∧ ∀ p ∈ ks.foldr (fun k m => Sparse.cons fill k (f k) m) [], p.1 ∈ ks := by
  induction ks with
  | nil => exact ⟨planeOk_nil, by simp⟩
  | cons k ks ih =>
    obtain ⟨hk, hks⟩ := List.pairwise_cons.1 hks
    obtain ⟨⟨⟨hrise, hin⟩, hlen⟩, hmem⟩ := ih hks fun j hj => hlt j (List.mem_cons_of_mem _ hj)
    refine ⟨⟨⟨Sparse.pairwise_cons_entry hrise fun p hp => hk _ (hmem p hp), fun p hp => ?_⟩, fun p hp => ?_⟩, fun p hp => ?_⟩
    all_goals obtain ⟨rfl, hne⟩ | hp := Sparse.mem_cons_entry hp
    · exact ⟨hlt k List.mem_cons_self, hne⟩
    · exact hin p hp
    · exact hf k
    · exact hlen p hp
    · exact List.mem_cons_self
    · exact List.mem_cons_of_mem _ (hmem p hp)

theorem renderedLine_length (y : Nat) : (s.renderedLine y).length = frameW := by
  simp [State.renderedLine, List.length_flatMap, cellsPerLine, frameW]

theorem presentRow_length (y : Nat) : (s.presentRow y).length = hostW := by
  unfold State.presentRow
  split
  · simp [blankRow]
  · rw [List.length_flatMap]
    simp only [List.length_replicate, List.map_const', List.length_range, List.sum_replicate]
    rfl

/-- `HOST` as PRESENT writes it is canonical (43 R270). -/
theorem planeOk_presentRows : PlaneOk rowFill hostH hostW s.presentRows :=
  (planeOk_foldr presentRow_length s.litRows (List.pairwise_lt_range.filter _)
    fun _ hk => List.mem_range.1 (List.mem_filter.1 hk).1).1

theorem planeOk_drawLine {y : Nat} (h : PlaneOk lineFill visibleLines frameW s.video.frame) (hy : y < visibleLines) :
    PlaneOk lineFill visibleLines frameW (s.drawLine y).video.frame := planeOk_set h hy (renderedLine_length y)

/-! ## The raster invariants -/

/-- The raster group after INITIALIZE and after RESET is that of clock 0 of line 0 (10 R35, 41 R186). -/
theorem rasterOk_powerOn (hc : c.TimingOk) : RasterOk c Raster.powerOn := by
  obtain ⟨hb, hs, hv, hp⟩ := flags_low_at_zero hc
  obtain ⟨hcpl, hlpf, hvs, -⟩ := timing_ok hc
  have hsync : vsyncAt c.timing 0 = false := by
    unfold vsyncAt visibleLines at *
    rw [Bool.and_eq_false_iff]
    exact .inl (by simp; omega)
  exact ⟨Nat.lt_of_lt_of_le Nat.two_pos hcpl, Nat.zero_lt_of_lt hlpf, hb.symm, hs.symm, hv.symm, rfl, hsync.symm, hp.symm, nofun⟩

/-- A TICK keeps the raster invariants: `STALL` is released where `PCG_SAFE` rises (41 R182, R186). -/
theorem rasterOk_tick (hc : s.cfg.TimingOk) (hr : RasterOk s.cfg s.raster) : RasterOk s.cfg s.tick.raster := by
  rw [tick_raster hc hr]
  obtain ⟨hh, hl, -, -, -, -, -, hps, hst⟩ := hr
  obtain ⟨hcpl, hlpf, -⟩ := timing_ok hc
  refine ⟨?_, ?_, rfl, rfl, rfl, rfl, rfl, rfl, fun h => ?_⟩
  · simp only [decide_eq_true_eq]
    split <;> omega
  · simp only [decide_eq_true_eq]
    split
    · exact Nat.mod_lt _ (by omega)
    · exact hl
  · simp only [Bool.and_eq_true, Bool.not_eq_true', decide_eq_false_iff_not] at h
    obtain ⟨⟨hstall, hwrap⟩, hn⟩ := h
    obtain ⟨hov, hsafe⟩ := hst hstall
    refine ⟨hov, ?_⟩
    simp only [hwrap, decide_false, Bool.false_eq_true, if_false] at hn ⊢
    rw [pcgSafeAt_succ, ← hps, hsafe]
    simp [hn]

/-! ## What keeps a state good -/

theorem State.Good.answer (h : s.Good) (x : Result) : (s.answer x).Good := { h with }

/-- Only the raster group and the trace changed, and the raster group is as 41 R186 wants it. -/
theorem State.Good.of_rasterOnly (h : s.Good) (ht : RasterOnly s t) (hr : RasterOk s.cfg t.raster) : t.Good := by
  unfold RasterOnly at ht
  rw [ht]
  exact { h with rasterOk := hr }

/-- A byte stored in a buffer that can be written there; the flash store only while no erase is under way. -/
theorem State.Good.poke (h : s.Good) (hoff : off < bufferSize s.cfg b) (hx : b = .ext → s.cfg.extrom = true)
    (hp : b = .pcg → pcgWritable s.cfg off = true) (hf : b = .fstore → s.cfg.hasFlash = true)
    (hb : b = .fstore → s.flash.busy = 0) (v : Byte) : (s.poke b off v).Good :=
  { h with
    bufferOk := bufferOk_poke h.bufferOk hoff hx hf
    pcgOk := pcgOk_poke h.pcgOk hp
    storeOk := by
      cases b
      case fstore => exact storeOk_of_le (by simp [hb rfl])
      all_goals exact h.storeOk }

/-! ### The latch -/

theorem State.Good.setMonL (h : s.Good) (x : Bool) : (s.setMonL x).Good :=
  { h with latchOk := latchOk_modeWith h.latchOk (by decide) x }

theorem State.Good.setMonH (h : s.Good) (x : Bool) : (s.setMonH x).Good :=
  { h with latchOk := latchOk_modeWith h.latchOk (by decide) x }

theorem State.Good.setPcgEn (h : s.Good) (x : Bool) : (s.setPcgEn x).Good := by
  unfold State.setPcgEn
  split
  · next ho => exact { h with latchOk := latchOk_mode h.latchOk fun ho' => by simp [ho] at ho' }
  · exact h

theorem State.Good.setPcgBank (h : s.Good) (k : BitVec 2) : (s.setPcgBank k).Good := by
  unfold State.setPcgBank
  split
  · next ho =>
    obtain ⟨hpage, -, hports⟩ := h.latchOk
    exact { h with latchOk := ⟨hpage, fun ho' => by simp [ho] at ho', hports⟩ }
  · exact h

theorem State.Good.setPriority (h : s.Good) (p : BitVec 2) : (s.setPriority p).Good := by
  unfold State.setPriority
  split
  · next ho =>
    obtain ⟨hpage, -, hports⟩ := h.latchOk
    exact { h with latchOk := ⟨hpage, fun ho' => by simp [ho] at ho', hports⟩ }
  · exact h

/-- `BOOT_PAGE` is a data byte modulo the number of pages (40 R147). -/
theorem State.Good.setBootPage (h : s.Good) (v : Byte) : (s.setBootPage v).Good := by
  unfold State.setBootPage
  split
  · next hf =>
    obtain ⟨-, hrest⟩ := h.latchOk
    have hpos := (flashSize_eq h.cfgOk hf).2
    refine { h with latchOk := ⟨?_, hrest⟩ }
    rw [if_pos hf]
    exact lt_min (Nat.mod_lt _ hpos) (Nat.lt_of_le_of_lt (Nat.mod_le _ _) v.isLt)
  · exact h

theorem State.Good.setPcgData (h : s.Good) (hk : pcgPortAnswers s.cfg s.cfg.mmio.pcgData .pcgwData = true) (v : Byte) :
    (s.setPcgData v).Good := by
  unfold State.setPcgData
  split
  · obtain ⟨hpage, hov, -, hrest⟩ := h.latchOk
    exact { h with latchOk := ⟨hpage, hov, fun hn => by simp [hk] at hn, hrest⟩ }
  · exact h

theorem State.Good.setPcgAddr (h : s.Good) (hk : pcgPortAnswers s.cfg s.cfg.mmio.pcgAddr .pcgwAddr = true) (v : Byte) :
    (s.setPcgAddr v).Good := by
  unfold State.setPcgAddr
  split
  · obtain ⟨hpage, hov, hd, -, hctrl⟩ := h.latchOk
    exact { h with latchOk := ⟨hpage, hov, hd, fun hn => by simp [hk] at hn, hctrl⟩ }
  · exact h

theorem State.Good.setPcgCtrl (h : s.Good) (hk : pcgPortAnswers s.cfg s.cfg.mmio.pcgCtrl .pcgwCtrl = true) (v : Byte) :
    (s.setPcgCtrl v).Good := by
  unfold State.setPcgCtrl
  split
  · obtain ⟨hpage, hov, hd, ha, -⟩ := h.latchOk
    exact { h with latchOk := ⟨hpage, hov, hd, ha, fun hn => by simp [hk] at hn⟩ }
  · exact h

theorem State.Good.portWrite (h : s.Good) (p : Port) (v : Byte) : (s.portWrite p v).Good := by
  unfold State.portWrite
  simp only
  split; · exact h.setMonL false
  split; · exact h.setMonH false
  split; · exact h.setMonL true
  split; · exact h.setMonH true
  split; · exact ((h.setMonL true).setMonH true).setPcgEn false
  split; · exact (h.setPcgEn true).setPcgBank _
  split; · exact h.setPcgEn false
  split; · exact h.setBootPage v
  split; · exact h.setPriority _
  exact h

/-! ### The flash -/

/-- What the cycle and the identification mode of an idle flash are does not matter. -/
theorem State.Good.idleFlash (h : s.Good) (hf : s.cfg.hasFlash = true) (hb : s.flash.busy = 0) (k : Cycle) (x : Bool) :
    ({ s with flash := ⟨k, s.flash.busy, x⟩ } : State).Good :=
  { h with
    flashOk := ⟨h.flashOk.1, fun hpos => absurd hpos (by simp [hb]), fun hn => by simp [hf] at hn⟩
    storeOk := storeOk_of_le (by simp [hb]) }

/-- A storing command ends with the flash busy over a store that fits the count (42 R227, R230, R231). -/
theorem State.Good.flashCommit {n : Nat} (h : s.Good) (hf : s.cfg.hasFlash = true) (hn : n ≤ busyChip)
    (hst : StoreOk s.cfg ⟨.idle, n, s.flash.idMode⟩ s.mems.fstore) : (s.flashCommit n).Good :=
  { h with
    flashOk := ⟨hn, fun _ => rfl, fun hno => by simp [hf] at hno⟩
    storeOk := hst
    modifiedOk := fun hno => by simp [hf] at hno }

/-- Erasing part of the store of an idle flash. -/
theorem State.Good.flashFill (h : s.Good) (hf : s.cfg.hasFlash = true) (hb : s.flash.busy = 0) (lo n : Nat) :
    (s.flashFill lo n).Good :=
  { h with
    bufferOk := fun b => by
      cases b
      case fstore => exact ⟨Sparse.wf_clear (h.bufferOk .fstore).1, fun hn => by simp [hf] at hn, nofun⟩
      all_goals exact h.bufferOk _
    storeOk := storeOk_of_le (by simp [hb]) }

theorem State.Good.flashProgram (h : s.Good) (hf : s.cfg.hasFlash = true) (hb : s.flash.busy = 0) (hfa : fa < s.cfg.flashSize)
    (v : Byte) : (s.flashProgram fa v).Good :=
  (h.poke (b := .fstore) hfa nofun nofun (fun _ => hf) (fun _ => hb) v).flashCommit hf (by decide) (storeOk_of_le (Nat.le_refl _))

/-- A canonical buffer cleared over its whole size lists nothing. -/
theorem clear_all {f : Nat → Byte} {size : Nat} {x : Memory} (h : Memory.wf f size x) : Sparse.clear x 0 size = [] := by
  refine List.filter_eq_nil_iff.2 fun p hp => ?_
  have hlt := (h.2 p hp).1
  simp only [decide_eq_true_eq]
  omega

theorem State.Good.flashChipErase (h : s.Good) (hf : s.cfg.hasFlash = true) (hb : s.flash.busy = 0) :
    s.flashChipErase.Good := by
  refine (h.flashFill hf hb 0 s.cfg.flashSize).flashCommit hf (Nat.le_refl _) ?_
  have hnil : (s.flashFill 0 s.cfg.flashSize).mems.fstore = [] := clear_all (h.bufferOk .fstore).1
  rw [hnil]
  exact ⟨fun _ => rfl, fun _ => ⟨0, (flashSize_eq h.cfgOk hf).2, by simp⟩⟩

theorem State.Good.flashSectorErase (h : s.Good) (hf : s.cfg.hasFlash = true) (hb : s.flash.busy = 0)
    (hfa : fa < s.cfg.flashSize) : (s.flashSectorErase fa).Good :=
  (h.flashFill hf hb _ flashSector).flashCommit hf (by decide)
    (storeOk_sector s.mems.fstore (sectorOf_lt_pages h.cfgOk hf hfa) (Nat.le_refl _))

/-- Everything a flash write can do (42 R216, R233): nothing while busy, else move the cycle and the identification mode, or one
of the three storing commands. -/
theorem flashWrite_cases {P : State → Prop} (busy : P s)
    (scalars : s.flash.busy = 0 → ∀ k x, P { s with flash := ⟨k, s.flash.busy, x⟩ })
    (program : s.flash.busy = 0 → P (s.flashProgram fa v)) (chip : s.flash.busy = 0 → P s.flashChipErase)
    (sector : s.flash.busy = 0 → P (s.flashSectorErase fa)) : P (s.flashWrite fa v) := by
  unfold State.flashWrite
  split
  · exact busy
  · next hbusy =>
    have hb : s.flash.busy = 0 := by omega
    simp only
    cases s.flash.cycle <;> simp only
    case programSel => exact program hb
    case eraseUnlock2 =>
      split
      · exact chip hb
      split
      · exact sector hb
      · exact scalars hb _ _
    all_goals repeat' split
    all_goals exact scalars hb _ _

theorem State.Good.flashWrite (h : s.Good) (hf : s.cfg.hasFlash = true) (hfa : fa < s.cfg.flashSize) (v : Byte) :
    (s.flashWrite fa v).Good :=
  flashWrite_cases h (fun hb => h.idleFlash hf hb) (fun hb => h.flashProgram hf hb hfa v) (fun hb => h.flashChipErase hf hb)
    (fun hb => h.flashSectorErase hf hb hfa)

/-- A read counts down at most (42 R212, R213). -/
theorem State.Good.flashRead (h : s.Good) (hf : s.cfg.hasFlash = true) (fa : Nat) : (s.flashRead fa).1.Good := by
  obtain ⟨hmax, hidle, -⟩ := h.flashOk
  rw [flashRead_state]
  exact { h with
    flashOk := ⟨Nat.le_trans (Nat.sub_le _ _) hmax, fun hpos => hidle (Nat.lt_of_lt_of_le hpos (Nat.sub_le _ _)),
      fun hn => by simp [hf] at hn⟩
    storeOk := storeOk_count h.storeOk (Nat.sub_le _ _) }

/-! ### Memory accesses -/

theorem State.Good.winWrite (h : s.Good) (a : Addr) (v : Byte) : (s.winWrite a v).Good := by
  rw [winWrite_eq]
  split
  · exact h
  · next b off ht =>
    obtain ⟨hin, hpcg⟩ := winTarget_inside h.cfgOk ht
    have hw : b = .pcg → pcgWritable s.cfg off = true := fun e => by simp [pcgWritable, hpcg e]
    obtain rfl | rfl | rfl := winTarget_writable ht
    all_goals exact h.poke hin nofun hw nofun nofun v

theorem State.Good.winAccess (h : s.Good) (acc : Access) (a : Addr) (n : Nat) : (s.winAccess acc a n).Good := by
  cases acc with
  | read => exact h.answer _
  | write v => exact (h.winWrite a v).answer _

/-- The stall is raised with the overlay and outside the safe window only (41 R183, R186). -/
theorem State.Good.pcgStallCheck (h : s.Good) (ho : s.cfg.overlay = true) : s.pcgStallCheck.Good := by
  rw [pcgStallCheck_eq ho]
  split
  · next hlow =>
    obtain ⟨hh, hl, hhb, hhs, hbv, hvb, hvs, hps, -⟩ := h.rasterOk
    exact { h with rasterOk := ⟨hh, hl, hhb, hhs, hbv, hvb, hvs, hps, fun _ => ⟨ho, hlow.1⟩⟩ }
  · exact h

theorem State.Good.pcgPortWrite (h : s.Good) (hk : pcgPortAnswers s.cfg s.cfg.mmio.pcgCtrl .pcgwCtrl = true) (d : Byte) :
    (s.pcgPortWrite d).Good := by
  unfold State.pcgPortWrite
  simp only
  split
  · next hstrobe =>
    have hp : s.cfg.hasPcgPort = true := by
      simp only [State.pcgStrobe, Bool.and_eq_true] at hstrobe
      obtain ⟨⟨hp, -⟩, -⟩ := hstrobe
      exact hp
    have hin : (pcgPortOffset d s.latch.pcgAddr).toNat < bufferSize s.cfg .pcg := by
      rw [bufferSize, pcgSize_of_hasPcgPort h.cfgOk hp]
      exact (pcgPortOffset d s.latch.pcgAddr).isLt
    exact h.poke hin nofun (fun _ => pcgWritable_pcgPortOffset hp hk h.latchOk d) nofun nofun _
  · exact h

theorem State.Good.accMmio {k : MmioClass} (h : s.Good) (hk : mmioClass s.cfg a = some k) (acc : Access) :
    (s.accMmio acc k).Good := by
  obtain ⟨hdata, haddr, hctrl⟩ := pcgPortAnswers_of_mmioClass hk
  cases acc with
  | read => cases k <;> exact { h with }
  | write v =>
    cases k with
    | pio k | pit k => exact { h with }
    | aux => exact { h with }
    | pcgwData => exact (h.setPcgData (hdata rfl) v).answer _
    | pcgwAddr => exact (h.setPcgAddr (haddr rfl) v).answer _
    | pcgwCtrl =>
      have hcfg : (s.pcgPortWrite v).cfg = s.cfg := by rw [pcgPortWrite_frame]
      exact ((h.pcgPortWrite (hctrl rfl) v).setPcgCtrl (by rw [hcfg]; exact hctrl rfl) v).answer _

theorem State.Good.accBootflash (h : s.Good) (hf : s.cfg.hasFlash = true) (acc : Access) (off : BitVec 12) :
    (s.accBootflash acc off).Good := by
  cases acc with
  | read => exact (h.flashRead hf _).answer _
  | write v => exact (h.flashWrite hf (flashLocal_lt h.cfgOk hf h.latchOk off) v).answer _

theorem State.Good.memAccess (h : s.Good) (acc : Access) (a : Addr) : (s.memAccess acc a).Good :=
  memAccess_cases
    (fun hin => (h.pcgStallCheck (overlay_of_inPcgWin hin)).winAccess acc a 0)
    (fun _ hk => h.accMmio (mmioClass_of_intercepted hk) acc)
    (fun _ hf => h.accBootflash hf acc _)
    (fun b n => h.winAccess acc b n)

/-! ### The raster and the renderer -/

theorem State.Good.tick (h : s.Good) : s.tick.Good := by
  have hvideo := tick_video (s := s)
  have hraster := rasterOk_tick h.cfgOk.1 h.rasterOk
  rw [tick_frame]
  generalize s.tick.video = x at *
  subst hvideo
  simp only
  split
  · next hline => exact { h with rasterOk := hraster, frameOk := planeOk_drawLine h.frameOk hline.2 }
  · exact { h with rasterOk := hraster }

theorem State.Good.driveTempo (h : s.Good) (x : Bool) : (s.drive .tempo x).Good :=
  h.of_rasterOnly (rasterOnly_drive .tempo x) (by rw [drive_raster .tempo x nofun]; exact h.rasterOk)

theorem State.Good.driveBlink (h : s.Good) (x : Bool) : (s.drive .blink x).Good :=
  h.of_rasterOnly (rasterOnly_drive .blink x) (by rw [drive_raster .blink x nofun]; exact h.rasterOk)

theorem State.Good.presentFrame (h : s.Good) : s.presentFrame.Good :=
  { h with prevOk := h.frameOk, hostOk := planeOk_presentRows }

/-! ### The host's calls -/

theorem flashRegsOk_powerOn (c : Config) : FlashRegsOk c FlashRegs.powerOn := ⟨Nat.zero_le _, nofun, fun _ => rfl⟩

theorem rasterOnly_dropSignals : RasterOnly s s.dropSignals :=
  List.foldlRecOn _ _ (.refl s) fun _ hu _ _ => hu.trans (rasterOnly_drive _ false)

/-- RESET keeps the memories and gives the registers their power-on values (70 R351). -/
theorem State.Good.resetCore (h : s.Good) : s.resetCore.Good := by
  have hdrop : RasterOnly s s.dropSignals := rasterOnly_dropSignals
  unfold RasterOnly at hdrop
  rw [resetCore_eq, hdrop]
  exact { h with
    latchOk := latchOk_powerOn h.cfgOk
    rasterOk := rasterOk_powerOn h.cfgOk.1
    flashOk := flashRegsOk_powerOn _
    storeOk := storeOk_of_le (Nat.zero_le _) }

/-- The parts of a snapshot body that SNAP_SAVE can have produced (44 R302). -/
theorem Snapshot.wf_iff {p : Snapshot} : p.wf = true ↔
    ((((((((BufferOk p.identity .pcg p.pcg ∧ BufferOk p.identity .ram p.ram) ∧ BufferOk p.identity .vram p.vram)
      ∧ BufferOk p.identity .fstore p.fstore) ∧ LatchOk p.identity p.latch) ∧ RasterOk p.identity p.timing)
      ∧ FlashRegsOk p.identity p.flash) ∧ PcgOk p.identity p.pcg) ∧ StoreOk p.identity p.flash p.fstore) := by
  simp only [Snapshot.wf, Bool.and_eq_true, decide_eq_true_eq]

/-- A load takes over the whole raster group: without the overlay neither side is stalled (44 R302). -/
theorem restore_raster {p : Snapshot} (hs : RasterOk s.cfg s.raster) (hp : RasterOk s.cfg p.timing) :
    (s.restore p).raster = p.timing := by
  unfold State.restore
  cases ho : s.cfg.overlay with
  | true => exact drive_raster .busreq p.timing.stall fun _ => ho
  | false =>
    have low : ∀ q, RasterOk s.cfg q → q.stall = false := fun q hq => by
      cases hst : q.stall with
      | false => rfl
      | true => simp [overlay_of_stall hq hst] at ho
    have hstall : s.raster.stall = p.timing.stall := (low _ hs).trans (low _ hp).symm
    rw [hstall]
    exact congrArg State.raster (drive_same rfl)

theorem State.Good.restore {p : Snapshot} (h : s.Good) (htag : s.tagsMatch p = true) (hwf : p.wf = true) :
    (s.restore p).Good := by
  have hid : p.identity = s.cfg := by
    simp only [State.tagsMatch, Bool.and_eq_true, decide_eq_true_eq] at htag
    exact htag.2
  rw [Snapshot.wf_iff, hid] at hwf
  obtain ⟨⟨⟨⟨⟨⟨⟨⟨hpcg, hram⟩, hvram⟩, hfstore⟩, hlatch⟩, hraster⟩, hflash⟩, hpcgOk⟩, hstore⟩ := hwf
  have hloaded : ({ s with
      mems := { s.mems with pcg := p.pcg, ram := p.ram, vram := p.vram, fstore := p.fstore }
      latch := p.latch, raster := p.timing, flash := p.flash, modified := s.cfg.hasFlash || s.modified } : State).Good :=
    { h with
      bufferOk := fun b => by
        cases b
        case pcg => exact hpcg
        case ram => exact hram
        case vram => exact hvram
        case fstore => exact hfstore
        case ipl => exact h.bufferOk .ipl
        case cgrom => exact h.bufferOk .cgrom
        case ext => exact h.bufferOk .ext
      latchOk := hlatch
      rasterOk := hraster
      flashOk := hflash
      pcgOk := hpcgOk
      storeOk := hstore
      modifiedOk := fun hn => by simp [hn, h.modifiedOk hn] }
  refine hloaded.of_rasterOnly ((rasterOnly_with_raster _).trans (rasterOnly_drive .busreq _)) ?_
  exact (restore_raster h.rasterOk hraster).symm ▸ hraster

/-- The pattern bytes seeded from the character ROM are the two blocks of `0x400` bytes that R350 names. -/
theorem mem_initPcg {x : Memory} {p : Nat × Byte} (h : p ∈ initPcg c x) :
    c.hasPcgPort = true ∧ p.1 < 0xC00 ∧ p.1 % 0x800 < 0x400 ∧ p.2 ≠ fillOf c .pcg p.1 := by
  unfold initPcg at h
  split at h
  · next hp =>
    obtain h | h := List.mem_append.1 h
    all_goals
      obtain ⟨hlo, hhi, hne⟩ := Sparse.mem_tabulate h
      exact ⟨hp, by omega, by omega, hne⟩
  · simp at h

theorem pairwise_initPcg (x : Memory) : (initPcg c x).Pairwise fun p q => p.1 < q.1 := by
  unfold initPcg
  split
  · refine List.pairwise_append.2 ⟨Sparse.pairwise_tabulate, Sparse.pairwise_tabulate, fun p hp q hq => ?_⟩
    have := Sparse.mem_tabulate hp
    have := Sparse.mem_tabulate hq
    omega
  · exact List.Pairwise.nil

/-- INITIALIZE gives every buffer in canonical form (70 R350, R352). -/
theorem bufferOk_initMems (hc : c.Ok) (im : Images) (b : Buffer) : BufferOk c b ((initState c im s).mem b) := by
  cases b with
  | ipl | cgrom => exact ⟨wf_loadImage, by simp, by simp⟩
  | ram | vram => exact ⟨Sparse.wf_nil, fun _ => rfl, fun _ => rfl⟩
  | ext =>
    refine ⟨?_, by simp, fun hx => by simp [initState, State.mem, initMems, hx.2]⟩
    simp only [initState, State.mem, initMems]
    split
    · exact wf_loadImage
    · exact Sparse.wf_nil
  | fstore =>
    refine ⟨?_, fun hf => by simp [initState, State.mem, initMems, hf.2], by simp⟩
    simp only [initState, State.mem, initMems]
    split
    · exact wf_loadImage
    · exact Sparse.wf_nil
  | pcg =>
    refine ⟨⟨pairwise_initPcg _, fun p hp => ?_⟩, by simp, by simp⟩
    obtain ⟨hport, hlt, -, hne⟩ := mem_initPcg hp
    rw [bufferSize, pcgSize_of_hasPcgPort hc hport]
    exact ⟨by omega, hne⟩

/-- The core INITIALIZE makes is good, whatever was there before (70 R350). -/
theorem good_initState (hc : c.Ok) (im : Images) (s : State) : (initState c im s).Good where
  cfgOk := hc
  bufferOk := bufferOk_initMems hc im
  latchOk := latchOk_powerOn hc
  rasterOk := rasterOk_powerOn hc.1
  flashOk := flashRegsOk_powerOn c
  pcgOk p hp := by
    obtain ⟨hport, -, hlow, -⟩ := mem_initPcg hp
    simp [pcgWritable, initState, hport, hlow]
  storeOk := storeOk_of_le (Nat.zero_le _)
  modifiedOk _ := rfl
  frameOk := planeOk_nil
  prevOk := planeOk_nil
  hostOk := planeOk_nil

/-! ## The invariant of a run -/

/-- Settles O10: the state after reset is what INITIALIZE leaves of the reference configuration with no images. -/
theorem resetStateIsGood : Obligations.ResetStateIsGood := by
  have hreset : State.reset = (initState Config.reference .absent (State.unborn [])).answer .done := rfl
  have hgood : State.reset.Good := by
    rw [hreset]
    exact (good_initState (by decide) _ _).answer _
  exact ⟨rfl, fun _ => hgood, hgood⟩

/-- Every request answered by a good core leaves a good core. -/
theorem Effect.good (h : Effect s r t) (hg : s.Good) : t.Good := by
  cases h with
  | memRead tc => exact hg.memAccess .read _
  | memWrite tc => exact hg.memAccess (.write _) _
  | portRead | snapSave | snapMismatch => exact hg.answer _
  | portWrite tc => exact (hg.portWrite _ _).answer _
  | flashRd fa hf => exact (hg.flashRead hf _).answer _
  | flashWr fa v hf => exact (hg.flashWrite hf (maskFa_lt hg.cfgOk hf fa) v).answer _
  | tick => exact hg.tick.answer _
  | tempo => exact (hg.driveTempo _).answer _
  | blink => exact (hg.driveBlink _).answer _
  | present => exact hg.presentFrame.answer _
  | reset => exact hg.resetCore.answer _
  | snapLoad p htag hwf => exact (hg.restore htag hwf).answer _
  | release => exact { hg with }

/-- An answered request keeps the invariant, or INITIALIZE establishes it. -/
theorem inv_of_perform (hinv : s.Inv) (h : perform r s = .next t) : t.Inv := by
  obtain ⟨hl, e⟩ | ⟨c, im, -, -, hc, rfl⟩ := effect_of_perform h
  · exact fun _ => e.good (hinv hl)
  · exact fun _ => (good_initState hc im s).answer _

/-- Settles O9, by the kinds of request; the requests still to come are no part of the invariant. -/
theorem everyStepKeepsTheInvariant : Obligations.EveryStepKeepsTheInvariant := by
  intro s t hinv h
  cases hin : s.inbox with
  | nil =>
    rw [step_nil hin] at h
    cases h
    exact hinv
  | cons r rest =>
    rw [step_cons hin] at h
    have hrest : State.Inv { s with inbox := rest } := fun hl => { hinv hl with }
    exact inv_of_perform hrest h

end Sys2Proof.Machine
end

section
/-! SUPPORT. The statements of 20_memory: how an address splits, the Bank Map as the table of R68, which accesses go through it, and
what a window write leaves to be read. -/

namespace Sys2Proof.Machine

open Sys2Proof.Claims

variable {s t : State} {c : Config} {a : Addr} {v : Byte}

/-! ## Addresses -/

theorem windowOffset_lt (a : Addr) : windowOffset a < 0x800 := Nat.mod_lt _ (by decide)

theorem toNat_eq_window (a : Addr) : a.toNat = windowIndex a * 0x800 + windowOffset a := (Nat.div_add_mod' _ _).symm

/-- Settles O16: a shift by 11 divides by `0x800`, and the mask of 11 bits is the remainder. -/
theorem addressSplitsIntoWindowAndOffset : Obligations.AddressSplitsIntoWindowAndOffset := by
  intro a
  have ha := a.isLt
  refine ⟨?_, ?_, ?_, windowOffset_lt a, toNat_eq_window a⟩
  · rw [BitVec.toNat_ushiftRight, Nat.shiftRight_eq_div_pow]
    rfl
  · rw [BitVec.toNat_and]
    exact (Nat.and_two_pow_sub_one_eq_mod a.toNat 11).symm
  · unfold windowIndex
    omega

/-! ## The Bank Map is the table of 20 R68 -/

/-- The table gives the byte of the window's source at the address's offset (20 R61, R69). -/
theorem mapSource_eq_derive : mapSource s a = (derive s.cfg s.latch (windowIndex a)).rsrc.buffer.map
    fun b => (b, (derive s.cfg s.latch (windowIndex a)).roff + windowOffset a) := by
  have hoff := windowOffset_lt a
  have haddr := toNat_eq_window a
  have hlow : a.toNat < 0x1000 ↔ windowIndex a ≤ 1 := by omega
  have hram : a.toNat < 0xD000 ↔ windowIndex a ≤ 25 := by omega
  have hvram : a.toNat < 0xE000 ↔ windowIndex a ≤ 27 := by omega
  have hio : a.toNat < 0xE800 ↔ windowIndex a ≤ 28 := by omega
  have hpcg : a.toNat < 0xF000 ↔ windowIndex a ≤ 29 := by omega
  have hopen : overlayOpen s = pcgOpen s.cfg s.latch := rfl
  unfold mapSource derive
  simp only [hlow, hram, hvram, hio, hpcg, hopen]
  generalize windowIndex a = w at *
  generalize windowOffset a = o at *
  split_ifs <;> simp only [ramWindow, romWindow, dummyWindow, ReadSource.buffer, Option.map_some, Option.map_none,
    Option.some.injEq, Prod.mk.injEq, true_and] <;> omega

/-- A window stores where it reads, and nowhere where it shows a ROM or the dummy (20 R68, R70). -/
theorem winTarget_eq_mapSink : s.winTarget a = mapSink s a := by
  unfold State.winTarget mapSink
  rw [mapSource_eq_derive]
  unfold derive
  split_ifs <;> rfl

theorem winRead_eq_readByte : s.winRead a = readByte s a := by
  unfold State.winRead readByte
  simp only [mapSource_eq_derive]
  cases (derive s.cfg s.latch (windowIndex a)).rsrc.buffer <;> rfl

theorem mapSource_of_mapSink {p : Buffer × Nat} (h : mapSink s a = some p) : mapSource s a = some p := by
  unfold mapSink at h
  split at h
  case h_4 => exact h
  all_goals cases h

/-- The table depends on the configuration and the latch alone. -/
theorem mapSource_congr (hc : t.cfg = s.cfg) (hl : t.latch = s.latch) : mapSource t a = mapSource s a := by
  rw [mapSource_eq_derive, mapSource_eq_derive, hc, hl]

theorem mapSink_congr (hc : t.cfg = s.cfg) (hl : t.latch = s.latch) : mapSink t a = mapSink s a := by
  unfold mapSink
  rw [mapSource_congr hc hl]

/-! ## Window writes -/

theorem winWrite_of_mapSink_none (h : mapSink s a = none) : s.winWrite a v = s := by
  rw [winWrite_eq, winTarget_eq_mapSink, h]

/-- A window write in a good state stores its byte at the mapped place and nothing else (40 R129). -/
theorem stores_winWrite (h : s.Good) (a : Addr) (v : Byte) :
    Stores s (s.winWrite a v) (mapSink s a) v := by
  intro b k
  rw [winWrite_eq, winTarget_eq_mapSink]
  cases mapSink s a with
  | none => simp
  | some p =>
    obtain ⟨⟨hsorted, -⟩, -⟩ := h.bufferOk p.1
    simp only [peek_poke hsorted, Option.some.injEq, Prod.ext_iff, eq_comm]

/-- A byte stored through a window is the byte the window then shows (20 R66). -/
theorem readByte_of_stores (h : Stores s t (mapSink s a) v) (hsink : (mapSink s a).isSome = true) (hc : t.cfg = s.cfg)
    (hl : t.latch = s.latch) : readByte t a = v := by
  obtain ⟨⟨b, k⟩, hp⟩ := Option.isSome_iff_exists.1 hsink
  unfold readByte
  rw [mapSource_congr hc hl, mapSource_of_mapSink hp]
  exact (h b k).trans (if_pos hp)

theorem exec_memWindow (hl : s.life = .live) (acc : Access) : exec (.memWindow acc a) s = .next (s.winAccess acc a 0) :=
  whenLive_of_live hl

/-- Settles O18: MEM.WINDOW is the window access, and the window is the table's. -/
theorem windowAccessFollowsTheMap : Obligations.WindowAccessFollowsTheMap := by
  intro s a v hl
  simp only [exec_memWindow hl, winAccess_read, winAccess_write]
  refine ⟨?_, fun hnone => ?_, fun hg => ⟨_, rfl, ?_, ?_⟩⟩
  · rw [winRead_eq_readByte, State.answer]
  · rw [winWrite_of_mapSink_none hnone, State.answer]
  · rw [winWrite_frame]
    rfl
  · intro b k
    rw [peek_congr (State.answer_cfg _ _) (State.answer_mems _ _)]
    exact stores_winWrite hg a v b k

/-! ## Which accesses are intercepted (40 R126) -/

/-- The four registers from a base on, where they do not run over the end of the address space. -/
theorem sub_toNat_lt_four {base : Addr} (h : base.toNat + 3 < 0x10000) :
    (a - base).toNat < 4 ↔ base.toNat ≤ a.toNat ∧ a.toNat ≤ base.toNat + 3 := by
  bv_omega

/-- The peripherals' addresses by the numbers of 40 R126. -/
theorem peripheralAddr_iff (hc : c.Ok) : peripheralAddr c a = true
    ↔ (a - c.mmio.pioBase).toNat < 4 ∨ (a - c.mmio.pitBase).toNat < 4 ∨ a = c.mmio.aux := by
  obtain ⟨-, ⟨-, -, ⟨-, hpio⟩, -, ⟨-, hpit⟩, -⟩, -⟩ := hc
  rw [sub_toNat_lt_four (by omega), sub_toNat_lt_four (by omega)]
  simp only [peripheralAddr, Bool.or_eq_true, decide_eq_true_eq, beq_iff_eq, or_assoc]

/-- An address has a class exactly when it is one of the intercepted set. -/
theorem isSome_mmioClass (hc : c.Ok) (a : Addr) : (mmioClass c a).isSome = interceptedAddr c a := by
  rw [Bool.eq_iff_iff]
  unfold interceptedAddr
  rw [Bool.or_eq_true, peripheralAddr_iff hc]
  unfold mmioClass
  split_ifs <;> simp_all

theorem isSome_intercepted (hc : s.cfg.Ok) (a : Addr) : (intercepted s.cfg s.latch a).isSome = takenByIntercept s a := by
  have hactive : interceptActive s.cfg s.latch = (s.latch.monH && !overlayOpen s) := rfl
  unfold intercepted takenByIntercept
  rw [hactive, ← isSome_mmioClass hc]
  split <;> simp_all

/-- An intercepted address that is no peripheral's is a register of the PCG write port, which reads as the dummy (40 R135). -/
theorem accMmio_read_of_not_peripheral {k : MmioClass} (hc : c.Ok) (hk : mmioClass c a = some k)
    (hp : peripheralAddr c a ≠ true) : s.accMmio .read k = s.answer (.memRead dummyRead 0) := by
  rw [Ne, peripheralAddr_iff hc, not_or, not_or] at hp
  obtain ⟨hpio, hpit, haux⟩ := hp
  unfold mmioClass at hk
  rw [if_neg hpio, if_neg hpit, if_neg haux] at hk
  split_ifs at hk <;> obtain rfl := Option.some.inj hk <;> rfl

/-! ## Memory accesses (40 R130, R131) -/

theorem exec_memrd (hl : s.life = .live) : exec (.memrd a) s = .next (s.memAccess .read a) := whenLive_of_live hl
theorem exec_memwr (hl : s.life = .live) : exec (.memwr a v) s = .next (s.memAccess (.write v) a) := whenLive_of_live hl

theorem inPcgWin_eq_inOpenPcg : inPcgWin s.cfg s.latch a = inOpenPcg s a := by
  unfold inPcgWin inOpenPcg
  rw [Bool.and_assoc, ← Bool.decide_and]
  rfl

theorem pcgStallCheck_of_held (h : ¬(s.raster.pcgSafe = false ∧ s.raster.stall = false)) : s.pcgStallCheck = s := if_neg h

theorem pcgStallCheck_answer (x : Result) : (s.answer x).pcgStallCheck = s.pcgStallCheck.answer x := by
  unfold State.pcgStallCheck State.drive
  simp only [State.answer_raster, State.answer_cfg, State.answer_trace]
  split_ifs <;> rfl

theorem flashRead_answer (x : Result) (fa : Nat) :
    (s.answer x).flashRead fa = (s.flashRead fa).map (fun t => t.answer x) id := by
  unfold State.flashRead
  rw [apply_ite (Prod.map _ _), apply_ite (Prod.map _ _)]
  exact ite_congr rfl (fun _ => rfl) fun _ => ite_congr rfl (fun _ => rfl) fun _ => rfl

/-- A read does not look at what was answered before it. -/
theorem memAccess_read_answer (x : Result) : (s.answer x).memAccess .read a = s.memAccess .read a := by
  unfold State.memAccess State.accPcgwin State.accBootflash
  simp only [State.answer_cfg, State.answer_latch, pcgStallCheck_answer, flashRead_answer]
  refine ite_congr rfl (fun _ => rfl) fun _ => ?_
  cases intercepted s.cfg s.latch a with
  | some k => cases k <;> rfl
  | none =>
    refine ite_congr rfl (fun _ => ?_) fun _ => ?_
    · exact ite_congr rfl (fun _ => rfl) fun _ => rfl
    · exact ite_congr rfl (fun _ => rfl) fun _ => rfl

/-- A read that is none of the three exceptions of 20 R65 changes its answer alone. -/
theorem memAccess_read_quiet (hc : s.cfg.Ok) (hflash : ¬(takenByFlash s a = true ∧ 0 < s.flash.busy))
    (hperiph : ¬(takenByIntercept s a = true ∧ peripheralAddr s.cfg a = true))
    (hstall : ¬(inOpenPcg s a = true ∧ s.raster.pcgSafe = false ∧ s.raster.stall = false)) :
    ∃ b n, s.memAccess .read a = s.answer (.memRead b n) := by
  apply memAccess_cases (P := fun t => ∃ b n, t = s.answer (.memRead b n))
  case pcgwin =>
    intro hwin
    rw [inPcgWin_eq_inOpenPcg] at hwin
    rw [State.accPcgwin, pcgStallCheck_of_held fun h => hstall ⟨hwin, h⟩]
    exact ⟨_, _, rfl⟩
  case mmio =>
    intro k hk
    have htaken : takenByIntercept s a = true := by rw [← isSome_intercepted hc, hk]; rfl
    exact ⟨_, _, accMmio_read_of_not_peripheral hc (mmioClass_of_intercepted hk) fun h => hperiph ⟨htaken, h⟩⟩
  case bootflash =>
    intro hboot hf
    simp only [inBoot, Bool.and_eq_true] at hboot
    have hbusy : s.flash.busy - 1 = s.flash.busy := by
      have : ¬0 < s.flash.busy := fun h => hflash ⟨by simp [takenByFlash, hboot, hf], h⟩
      omega
    rw [State.accBootflash, flashRead_state, hbusy]
    exact ⟨_, _, rfl⟩
  case window => exact fun b n => ⟨_, _, rfl⟩

/-- Settles O23: the read changes its answer alone, and a read does not look at the answer before it. -/
theorem otherReadsHaveNoSideEffect : Obligations.OtherReadsHaveNoSideEffect := by
  intro s a hl hc hflash hperiph hstall
  obtain ⟨b, n, h⟩ := memAccess_read_quiet hc hflash hperiph hstall
  refine ⟨b, n, ?_, ?_⟩
  · rw [exec_memrd hl, h, State.answer]
  · show exec (.memrd a) (s.answer (.memRead b n)) = .next (s.answer (.memRead b n))
    rw [exec_memrd (by exact hl), memAccess_read_answer, h]

/-! ## Accesses that go through the Bank Map -/

/-- The stall check of an access through an open PCG window (41 R183). -/
def State.stallCheckAt (s : State) (a : Addr) : State := if inOpenPcg s a then s.pcgStallCheck else s

@[simp] theorem State.stallCheckAt_cfg : (s.stallCheckAt a).cfg = s.cfg := by unfold State.stallCheckAt; split <;> simp
@[simp] theorem State.stallCheckAt_latch : (s.stallCheckAt a).latch = s.latch := by unfold State.stallCheckAt; split <;> simp
@[simp] theorem State.stallCheckAt_mems : (s.stallCheckAt a).mems = s.mems := by unfold State.stallCheckAt; split <;> simp
@[simp] theorem State.stallCheckAt_life : (s.stallCheckAt a).life = s.life := by unfold State.stallCheckAt; split <;> simp

/-- The wait of 41 R184 where neither an intercept nor the flash takes the access, by the class of the address. -/
theorem expectedWait_of_mapped (hi : takenByIntercept s a = false) (hf : takenByFlash s a = false) : expectedWait s a =
    if inOpenPcg s a then 0 else if inBoot s.latch a then 1
    else if inVram s.cfg s.latch a then vramWait s.cfg s.raster else 0 := by
  have hboot : inBoot s.latch a = true ↔ s.latch.monL = true ∧ a.toNat < 0x1000 := by simp [inBoot]
  have hvram : inVram s.cfg s.latch a = true
      ↔ s.latch.monH = true ∧ overlayOpen s = false ∧ 0xD000 ≤ a.toNat ∧ a.toNat ≤ 0xDFFF := by
    have hopen : pcgOpen s.cfg s.latch = overlayOpen s := rfl
    simp [inVram, hopen, and_assoc]
  unfold expectedWait vramWait
  simp only [hi, hf, hboot, hvram, tvTable_eq]
  cases s.raster.blankVram <;> simp

/-- An access that neither an intercept nor the flash takes is the window access, after the stall check of an open PCG window. -/
theorem memAccess_of_mapped (hc : s.cfg.Ok) (hi : takenByIntercept s a = false) (hf : takenByFlash s a = false) (acc : Access) :
    s.memAccess acc a = (s.stallCheckAt a).winAccess acc a (expectedWait s a) := by
  have hnone : intercepted s.cfg s.latch a = none := by
    rw [← Option.not_isSome_iff_eq_none, isSome_intercepted hc, hi]
    exact Bool.false_ne_true
  unfold State.memAccess State.stallCheckAt
  rw [expectedWait_of_mapped hi hf, inPcgWin_eq_inOpenPcg, hnone]
  split
  · rfl
  dsimp only
  split
  · next hboot =>
    have hlow : s.latch.monL = true ∧ a.toNat < 0x1000 := by simpa [inBoot] using hboot
    have hrom : ¬s.cfg.hasFlash = true := by simpa [takenByFlash, hlow] using hf
    rw [if_neg hrom, State.accBootrom, bootAddr_low12 hlow.2]
  split
  · next hvram =>
    simp only [inVram, Bool.and_eq_true, decide_eq_true_eq] at hvram
    obtain ⟨⟨-, hlo⟩, hhi⟩ := hvram
    rw [State.accVram, vramAddr_low12 hlo hhi]
  · rfl

theorem takenByIntercept_congr (hc : t.cfg = s.cfg) (hl : t.latch = s.latch) :
    takenByIntercept t a = takenByIntercept s a := by
  simp only [takenByIntercept, overlayOpen, hc, hl]

theorem takenByFlash_congr (hc : t.cfg = s.cfg) (hl : t.latch = s.latch) : takenByFlash t a = takenByFlash s a := by
  simp only [takenByFlash, hc, hl]

/-- The low window over the flash has no sink (20 R68). -/
theorem takenByFlash_of_mapSink (h : (mapSink s a).isSome = true) : takenByFlash s a = false := by
  by_contra hf
  simp only [takenByFlash, Bool.not_eq_false, Bool.and_eq_true, decide_eq_true_eq] at hf
  obtain ⟨⟨hmon, hflash⟩, hlow⟩ := hf
  simp [mapSink, mapSource, hmon, hflash, hlow] at h

/-- What MEMRD returns of an address that goes through the Bank Map (40 R130). -/
theorem memrd_result_of_mapped (hc : s.cfg.Ok) (hi : takenByIntercept s a = false) (hf : takenByFlash s a = false) :
    (s.memAccess .read a).result = .memRead (readByte s a) (expectedWait s a) := by
  rw [memAccess_of_mapped hc hi hf, winAccess_read, State.answer_result, ← winRead_eq_readByte]
  congr 1
  exact winRead_congr (by simp) (by simp) (by simp)

theorem State.Good.stallCheckAt (h : s.Good) (a : Addr) : (s.stallCheckAt a).Good := by
  unfold State.stallCheckAt
  split
  · next hopen => exact h.pcgStallCheck (overlay_of_inPcgWin (inPcgWin_eq_inOpenPcg.trans hopen))
  · exact h

/-- MEMWR of an address that goes through the Bank Map stores its byte at the mapped place and nothing else (40 R131). -/
theorem stores_memwr_of_mapped (hg : s.Good) (hi : takenByIntercept s a = false) (hf : takenByFlash s a = false) (v : Byte) :
    Stores s (s.memAccess (.write v) a) (mapSink s a) v := by
  intro b k
  have h := stores_winWrite (hg.stallCheckAt a) a v b k
  rw [mapSink_congr State.stallCheckAt_cfg State.stallCheckAt_latch,
    peek_congr State.stallCheckAt_cfg State.stallCheckAt_mems] at h
  rw [memAccess_of_mapped hg.cfgOk hi hf, winAccess_write, peek_congr (State.answer_cfg _ _) (State.answer_mems _ _), h]

@[simp] theorem State.winWrite_life (a : Addr) (v : Byte) : (s.winWrite a v).life = s.life := by rw [winWrite_frame]

/-- Settles O22: the write keeps the Bank Map, so the read goes to the byte it stored. -/
theorem writtenByteIsReadBack : Obligations.WrittenByteIsReadBack := by
  intro s a v hl hg hi hsink
  have hf := takenByFlash_of_mapSink hsink
  have hw := memAccess_of_mapped hg.cfgOk hi hf (.write v)
  have hcfg : (s.memAccess (.write v) a).cfg = s.cfg := (sameRoms_memAccess (.write v) a).cfg
  have hlatch : (s.memAccess (.write v) a).latch = s.latch := by
    rw [hw, winAccess_latch, State.stallCheckAt_latch]
  have hlife : (s.memAccess (.write v) a).life = .live := by
    rw [hw, winAccess_write, State.answer_life, State.winWrite_life, State.stallCheckAt_life, hl]
  have hbyte := readByte_of_stores (stores_memwr_of_mapped hg hi hf v) hsink hcfg hlatch
  refine ⟨_, _, _, exec_memwr hl, exec_memrd hlife, (memrd_result_of_mapped (hcfg ▸ hg.cfgOk) ?_ ?_).trans (by rw [hbyte])⟩
  · rw [takenByIntercept_congr hcfg hlatch, hi]
  · rw [takenByFlash_congr hcfg hlatch, hf]

end Sys2Proof.Machine
end

section
/-! SUPPORT. The statements of 30_encoding: the fields of a transaction code, what the decoder reads of a request, the decoded
operations against their carriers, and the decoder against the encoder. -/

namespace Sys2Proof.Machine

open Sys2Proof.Claims

variable {x : Context} {c : Config} {l : Latch} {s : State} {a : Addr} {acc : Access} {p : Port} {v : Byte} {fa : Nat}
  {i : Instr} {r : Request}

/-! ## Transaction codes (30 R91, R93) -/

/-- A transaction code is the one assembled of its fields. -/
theorem mkTc_fields (tc : BitVec 26) : mkTc (tcKind tc) (tcAddr tc) (tcData tc) = tc := by
  apply BitVec.eq_of_toNat_eq
  have := tc.isLt
  simp only [mkTc_toNat, tcKind, tcAddr, tcData, BitVec.extractLsb'_toNat, Nat.shiftRight_eq_div_pow]
  omega

@[simp] theorem carrier_memrd (c : Config) (a : Addr) (d : Byte) : carrier c (.bus (mkTc 0 a d)) = .ok (.memrd a) := by
  simp only [carrier, tcKind_mkTc, tcAddr_mkTc]
  rfl

@[simp] theorem carrier_memwr (c : Config) (a : Addr) (d : Byte) : carrier c (.bus (mkTc 1 a d)) = .ok (.memwr a d) := by
  simp only [carrier, tcKind_mkTc, tcAddr_mkTc, tcData_mkTc]
  rfl

@[simp] theorem carrier_iord (c : Config) (a : Addr) (d : Byte) :
    carrier c (.bus (mkTc 2 a d)) = .ok (.iord (a.setWidth 8)) := by
  simp only [carrier, tcKind_mkTc, tcPort_mkTc]
  rfl

@[simp] theorem carrier_iowr (c : Config) (a : Addr) (d : Byte) :
    carrier c (.bus (mkTc 3 a d)) = .ok (.iowr (a.setWidth 8) d) := by
  simp only [carrier, tcKind_mkTc, tcPort_mkTc, tcData_mkTc]
  rfl

/-- Settles O2: each field is a digit of the code as a number, and a carrier reads nothing but the fields. -/
theorem transactionCodeFields : Obligations.TransactionCodeFields :=
  ⟨fun k a d => ⟨tcKind_mkTc k a d, tcAddr_mkTc k a d, tcData_mkTc k a d⟩, mkTc_fields,
    fun c a d => ⟨carrier_memrd c a d, carrier_memwr c a d, carrier_iord c a d, carrier_iowr c a d⟩⟩

/-! ## What a transaction code decodes to (30 R96) -/

@[simp] theorem decode_memrd (x : Context) (a : Addr) (d : Byte) : decode x (.bus (mkTc 0 a d)) = .ok (memOp x .read a) := by
  simp only [decode, tcKind_mkTc, tcAddr_mkTc]
  rfl

@[simp] theorem decode_memwr (x : Context) (a : Addr) (d : Byte) :
    decode x (.bus (mkTc 1 a d)) = .ok (memOp x (.write d) a) := by
  simp only [decode, tcKind_mkTc, tcAddr_mkTc, tcData_mkTc]
  rfl

@[simp] theorem decode_iord (x : Context) (a : Addr) (d : Byte) :
    decode x (.bus (mkTc 2 a d)) = .ok (.iord (a.setWidth 8)) := by
  simp only [decode, tcKind_mkTc, tcPort_mkTc]
  rfl

@[simp] theorem decode_iowr (x : Context) (a : Addr) (d : Byte) :
    decode x (.bus (mkTc 3 a d)) = .ok (portOp x.cfg (a.setWidth 8) d) := by
  simp only [decode, tcKind_mkTc, tcPort_mkTc, tcData_mkTc]
  rfl

theorem decode_encodeMem (x : Context) (acc : Access) (a : Addr) : decode x (encodeMem acc a) = .ok (memOp x acc a) := by
  cases acc with
  | read => exact decode_memrd x a 0
  | write v => exact decode_memwr x a v

theorem decode_encodeOut (x : Context) (p : Port) (v : Byte) : decode x (encodeOut p v) = .ok (portOp x.cfg p v) := by
  rw [encodeOut, decode_iowr, port_setWidth]

/-- Settles O4: six closed words, evaluated in power-on contexts (95 V1, V2, V3, V5). -/
theorem wordsOfTheVectorsDecode : Obligations.WordsOfTheVectorsDecode := by
  unfold Obligations.WordsOfTheVectorsDecode
  decide

/-! ## Intercepted registers (40 R126, R130, R131) -/

/-- The intercepts are active only while the PCG windows are closed (40 R125). -/
theorem inPcgWin_of_intercepted {k : MmioClass} (h : intercepted c l a = some k) : inPcgWin c l a = false := by
  unfold intercepted interceptActive at h
  unfold inPcgWin
  cases hopen : pcgOpen c l with
  | false => rfl
  | true => simp [hopen] at h

theorem memOp_of_intercepted {k : MmioClass} (h : intercepted x.cfg x.latch a = some k) : memOp x acc a = mmioOp acc k := by
  unfold memOp
  rw [inPcgWin_of_intercepted h, h]
  rfl

/-- Accesses at an intercepted address are the operations of its register. -/
theorem accessesAre_of_mmioClass {k : MmioClass} (hmon : s.latch.monH = true) (hopen : overlayOpen s = false)
    (hk : mmioClass s.cfg a = some k) : AccessesAre s a fun acc => mmioOp acc k := by
  have hactive : interceptActive s.cfg s.latch = true := by
    have hpcg : pcgOpen s.cfg s.latch = false := hopen
    simp [interceptActive, hmon, hpcg]
  have htaken : intercepted s.context.cfg s.context.latch a = some k := (if_pos hactive).trans hk
  have heach : ∀ acc, s.whenLive (s.memAccess acc a) = exec (mmioOp acc k) s := fun acc => by
    rw [← exec_memOp, memOp_of_intercepted htaken]
  exact ⟨heach .read, fun v => heach (.write v)⟩

/-- Outside the four registers from a base on, the distance from the base is none of theirs. -/
theorem not_sub_toNat_lt_four {base : Addr} (h : base.toNat + 3 < 0x10000) (ha : outsideFour base a) :
    ¬(a - base).toNat < 4 := by
  rw [sub_toNat_lt_four h]
  unfold outsideFour at ha
  omega

/-- The distance of the `k`-th of four registers from the base, as a number and as a register number. -/
theorem register_sub_base (base : Addr) {k : Nat} (hk : k < 4) :
    (base + BitVec.ofNat 16 k - base).toNat < 4
      ∧ (base + BitVec.ofNat 16 k - base).setWidth 2 = BitVec.ofNat 2 k := by
  have e : base + BitVec.ofNat 16 k - base = BitVec.ofNat 16 k := by rw [add_sub_cancel_left]
  rw [e]
  refine ⟨?_, BitVec.eq_of_toNat_eq ?_⟩ <;> simp only [BitVec.toNat_ofNat, BitVec.toNat_setWidth] <;> omega

theorem mmioClass_pio (c : Config) {k : Nat} (hk : k < 4) :
    mmioClass c (c.mmio.pioBase + BitVec.ofNat 16 k) = some (.pio (BitVec.ofNat 2 k)) := by
  obtain ⟨hlt, hreg⟩ := register_sub_base c.mmio.pioBase hk
  rw [mmioClass, if_pos hlt, hreg]

theorem mmioClass_pit (hc : c.Ok) {k : Nat} (hk : k < 4)
    (hpio : outsideFour c.mmio.pioBase (c.mmio.pitBase + BitVec.ofNat 16 k)) :
    mmioClass c (c.mmio.pitBase + BitVec.ofNat 16 k) = some (.pit (BitVec.ofNat 2 k)) := by
  obtain ⟨-, ⟨-, -, ⟨-, hend⟩, -⟩, -⟩ := hc
  obtain ⟨hlt, hreg⟩ := register_sub_base c.mmio.pitBase hk
  rw [mmioClass, if_neg (not_sub_toNat_lt_four (by omega) hpio), if_pos hlt, hreg]

/-- The class of an address that is none of the eight registers of the two devices. -/
theorem mmioClass_of_free (hc : c.Ok) (hpio : outsideFour c.mmio.pioBase a) (hpit : outsideFour c.mmio.pitBase a) :
    mmioClass c a = if a = c.mmio.aux then some .aux
      else if c.hasPcgPort && a == c.mmio.pcgData then some .pcgwData
      else if c.hasPcgPort && a == c.mmio.pcgAddr then some .pcgwAddr
      else if c.hasPcgPort && a == c.mmio.pcgCtrl then some .pcgwCtrl
      else none := by
  obtain ⟨-, ⟨-, -, ⟨-, hpioEnd⟩, -, ⟨-, hpitEnd⟩, -⟩, -⟩ := hc
  rw [mmioClass, if_neg (not_sub_toNat_lt_four (by omega) hpio), if_neg (not_sub_toNat_lt_four (by omega) hpit)]

theorem pcgAddresses_distinct (hc : c.Ok) (hport : c.hasPcgPort = true) :
    c.mmio.pcgAddr ≠ c.mmio.pcgData ∧ c.mmio.pcgCtrl ≠ c.mmio.pcgData ∧ c.mmio.pcgCtrl ≠ c.mmio.pcgAddr := by
  obtain ⟨-, ⟨-, -, -, -, -, -, hpcg⟩, -⟩ := hc
  obtain ⟨-, -, -, hnodup⟩ := hpcg hport
  simp only [List.nodup_cons, List.mem_cons, List.not_mem_nil, or_false, not_or] at hnodup
  obtain ⟨⟨hda, hdc⟩, hac, -⟩ := hnodup
  exact ⟨Ne.symm hda, Ne.symm hdc, Ne.symm hac⟩

/-- Settles O60: each address has the class of its register, so the access decodes to that register's operation. -/
theorem interceptedAccessesReachTheirRegisters : Obligations.InterceptedAccessesReachTheirRegisters := by
  intro s _ hc hmon hopen
  refine ⟨fun k hk => ?pio, fun k hk hpio => ?pit, fun ⟨hpio, hpit⟩ => ?aux, fun hport =>
    ⟨fun ⟨hpio, hpit⟩ haux => ?data, fun ⟨hpio, hpit⟩ haux => ?addr, fun ⟨hpio, hpit⟩ haux => ?ctrl⟩⟩
  case pio => exact accessesAre_of_mmioClass hmon hopen (mmioClass_pio s.cfg hk)
  case pit => exact accessesAre_of_mmioClass hmon hopen (mmioClass_pit hc hk hpio)
  case aux => exact accessesAre_of_mmioClass hmon hopen ((mmioClass_of_free hc hpio hpit).trans (if_pos rfl))
  all_goals obtain ⟨had, hcd, hca⟩ := pcgAddresses_distinct hc hport
  case data =>
    refine accessesAre_of_mmioClass (k := .pcgwData) hmon hopen ?_
    simp [mmioClass_of_free hc hpio hpit, haux, hport]
  case addr =>
    refine accessesAre_of_mmioClass (k := .pcgwAddr) hmon hopen ?_
    simp [mmioClass_of_free hc hpio hpit, haux, hport, had]
  case ctrl =>
    refine accessesAre_of_mmioClass (k := .pcgwCtrl) hmon hopen ?_
    simp [mmioClass_of_free hc hpio hpit, haux, hport, hcd, hca]

/-! ## Carriers (30 R96) -/

/-- Performing a request that has a carrier is running the carrier. -/
theorem perform_of_carrier {j : Instr} (h : carrier s.cfg r = .ok j) : perform r s = exec j s := by
  cases r with
  | bus tc =>
    obtain rfl := Except.ok.inj h
    rw [perform_bus]
    have hlt : (tcKind tc).toNat < 4 := (tcKind tc).isLt
    generalize (tcKind tc).toNat = n at hlt
    rcases n with _ | _ | _ | _ | n
    · rfl
    · rfl
    · rfl
    · rfl
    · omega
  | flashRd fa =>
    obtain ⟨hf, hj⟩ := (ite_eq_iff.1 h).resolve_right (fun hno => nomatch hno.2)
    obtain rfl := Except.ok.inj hj
    exact perform_flashRd fa hf
  | flashWr fa v =>
    obtain ⟨hf, hj⟩ := (ite_eq_iff.1 h).resolve_right (fun hno => nomatch hno.2)
    obtain rfl := Except.ok.inj hj
    exact perform_flashWr fa hf
  | malformed n w => cases h
  | _ => obtain rfl := Except.ok.inj h; rfl

/-- Settles O5: performing a request runs the operation it decodes to, and has the meaning of the carrier. -/
theorem decodedOperationIsItsCarrier : Obligations.DecodedOperationIsItsCarrier :=
  fun _ _ _ _ hdec hcar => (perform_of_decode hdec).symm.trans (perform_of_carrier hcar)

/-! ## Port writes (30 R93, R99, 40 R145, R148) -/

theorem low2_eq {v w : Byte} (h : v.toNat % 4 = w.toNat % 4) : v.extractLsb' 0 2 = w.extractLsb' 0 2 := by
  apply BitVec.eq_of_toNat_eq
  simpa [BitVec.extractLsb'_toNat] using h

/-- A port write reads its data at the boot-page port, and the two low bits at the two 2-bit ports. -/
theorem portOp_congr {w : Byte} (hpage : p = c.ports.bootPage → v = w)
    (hlow : p = c.ports.pcgOpen ∨ p = c.ports.priority → v.extractLsb' 0 2 = w.extractLsb' 0 2) :
    portOp c p v = portOp c p w := by
  unfold portOp
  have atPort : ∀ {b : Bool} {q : Port}, (b && p == q) = true → p = q := by simp
  iterate 5 refine ite_congr rfl (fun _ => rfl) fun _ => ?_
  refine ite_congr rfl (fun hat => by rw [hlow (.inl (atPort hat))]) fun _ => ?_
  refine ite_congr rfl (fun _ => rfl) fun _ => ?_
  refine ite_congr rfl (fun hat => by rw [hpage (atPort hat)]) fun _ => ?_
  exact ite_congr rfl (fun hat => by rw [hlow (.inr (atPort hat))]) fun _ => rfl

/-- Settles O3: the fields are dropped by the decoder or by the port. -/
theorem ignoredBitsDoNotMatter : Obligations.IgnoredBitsDoNotMatter := by
  intro x a a' d d'
  simp only [decode_memrd, decode_iord, decode_iowr, Except.ok.injEq, List.mem_cons, List.not_mem_nil, or_false, not_or, true_and]
  refine ⟨fun hport => ?_, fun ⟨hopen, hpage, hprio⟩ => ?_, fun hpage hlow => ?_⟩
  · rw [hport]
    exact ⟨rfl, rfl⟩
  · exact portOp_congr (fun h => absurd h hpage) fun h => (h.elim hopen hprio).elim
  · exact portOp_congr (fun h => absurd h hpage) fun _ => low2_eq hlow

/-! ## The encoding of a memory access is decoded to it (30 R92, R97) -/

/-- The intercepted set lies in the I/O block (00 R7, 40 R126). -/
theorem inIoBlock_of_interceptedAddr (hc : c.Ok) (h : interceptedAddr c a = true) : inIoBlock a.toNat := by
  obtain ⟨-, ⟨-, ⟨hpio, -⟩, ⟨-, hpioEnd⟩, ⟨hpit, -⟩, ⟨-, hpitEnd⟩, haux, hpcg⟩, -⟩ := hc
  simp only [interceptedAddr, peripheralAddr, Bool.or_eq_true, Bool.and_eq_true, decide_eq_true_eq, beq_iff_eq] at h
  obtain ((⟨hlo, hhi⟩ | ⟨hlo, hhi⟩) | rfl) | ⟨hport, hreg⟩ := h
  · exact ⟨by omega, by omega⟩
  · exact ⟨by omega, by omega⟩
  · exact haux
  · obtain ⟨hdata, haddr, hctrl, -⟩ := hpcg hport
    obtain (rfl | rfl) | rfl := hreg
    · exact hdata
    · exact haddr
    · exact hctrl

/-- Outside the I/O block no access is intercepted. -/
theorem intercepted_eq_none (hc : c.Ok) (l : Latch) (h : ¬inIoBlock a.toNat) : intercepted c l a = none := by
  cases hk : intercepted c l a with
  | none => rfl
  | some k =>
    have hsome : interceptedAddr c a = true := by rw [← isSome_mmioClass hc, mmioClass_of_intercepted hk]; rfl
    exact absurd (inIoBlock_of_interceptedAddr hc hsome) h

theorem inPcgWin_of_closed (h : pcgOpen c l = false) (a : Addr) : inPcgWin c l a = false := by simp [inPcgWin, h]

theorem inPcgWin_of_low (c : Config) (l : Latch) (h : a.toNat < 0xD000) : inPcgWin c l a = false := by
  simp only [inPcgWin, Bool.and_eq_false_iff, decide_eq_false_iff_not]
  omega

theorem decode_memPcgwin (h : rowHolds x (.memPcgwin acc a) = true) : decode x (encodeMem acc a) = .ok (.memPcgwin acc a) := by
  have hpcg : inPcgWin x.cfg x.latch a = true := h
  rw [decode_encodeMem, memOp, if_pos hpcg]

theorem decode_intercepted {k : MmioClass} (h : (intercepted x.cfg x.latch a == some k) = true) :
    decode x (encodeMem acc a) = .ok (mmioOp acc k) := by
  rw [decode_encodeMem, memOp_of_intercepted (beq_iff_eq.1 h)]

/-- In the low boot window an access goes to what backs it (40 R127, 41 R180). -/
theorem memOp_bootAddr (hc : x.cfg.Ok) (hmon : x.latch.monL = true) (acc : Access) (off : BitVec 12) :
    memOp x acc (bootAddr off) = if x.cfg.hasFlash then .memBootflash acc off else .memBootrom acc off := by
  have hoff := off.isLt
  have hpcg : inPcgWin x.cfg x.latch (bootAddr off) = false := inPcgWin_of_low _ _ (by rw [bootAddr_toNat]; omega)
  have hio : intercepted x.cfg x.latch (bootAddr off) = none :=
    intercepted_eq_none hc _ (by rw [bootAddr_toNat]; omega)
  have hboot : inBoot x.latch (bootAddr off) = true := by simp [inBoot, hmon, hoff]
  simp [memOp, hpcg, hio, hboot]

theorem decode_memBootflash {off : BitVec 12} (hc : x.cfg.Ok) (h : rowHolds x (.memBootflash acc off) = true) :
    decode x (encodeMem acc (bootAddr off)) = .ok (.memBootflash acc off) := by
  simp only [rowHolds, Bool.and_eq_true] at h
  obtain ⟨hmon, hf⟩ := h
  rw [decode_encodeMem, memOp_bootAddr hc hmon, if_pos hf]

theorem decode_memBootrom {off : BitVec 12} (hc : x.cfg.Ok) (h : rowHolds x (.memBootrom acc off) = true) :
    decode x (encodeMem acc (bootAddr off)) = .ok (.memBootrom acc off) := by
  simp only [rowHolds, Bool.and_eq_true, Bool.not_eq_true'] at h
  obtain ⟨hmon, hf⟩ := h
  rw [decode_encodeMem, memOp_bootAddr hc hmon, if_neg (by simp [hf])]

/-- With the overlay closed and `MON_H` = 1 an access in the VRAM range goes to VRAM (41 R181). -/
theorem decode_memVram {off : BitVec 12} (hc : x.cfg.Ok) (h : rowHolds x (.memVram acc off) = true) :
    decode x (encodeMem acc (vramAddr off)) = .ok (.memVram acc off) := by
  simp only [rowHolds, Bool.and_eq_true, Bool.not_eq_true'] at h
  obtain ⟨hmon, hclosed⟩ := h
  have hoff := off.isLt
  have hpcg := inPcgWin_of_closed hclosed (vramAddr off)
  have hio : intercepted x.cfg x.latch (vramAddr off) = none :=
    intercepted_eq_none hc _ (by rw [vramAddr_toNat]; omega)
  have hboot : inBoot x.latch (vramAddr off) = false := by
    simp only [inBoot, vramAddr_toNat, Bool.and_eq_false_iff, decide_eq_false_iff_not]
    omega
  have hvram : inVram x.cfg x.latch (vramAddr off) = true := by
    simp only [inVram, hmon, hclosed, vramAddr_toNat, Bool.and_eq_true, decide_eq_true_eq, Bool.not_false, and_true, true_and]
    omega
  simp [decode_encodeMem, memOp, hpcg, hio, hboot, hvram]

/-- Where the conditions of the earlier rows fail an access goes through the Bank Map (30 R97). -/
theorem decode_memWindow (h : rowHolds x (.memWindow acc a) = true) : decode x (encodeMem acc a) = .ok (.memWindow acc a) := by
  simp only [rowHolds, Bool.and_eq_true, Bool.not_eq_true', Option.isNone_iff_eq_none] at h
  obtain ⟨⟨⟨hpcg, hio⟩, hboot⟩, hvram⟩ := h
  simp [decode_encodeMem, memOp, hpcg, hio, hboot, hvram]

/-! ## The encoding of a port write is decoded to it (30 R99, 40 R139) -/

/-- The operations of a core's ports, in the order of 30 R96. -/
def portRows (c : Config) (v : Byte) : List (Port × Instr) :=
  [(c.ports.monlOff, Instr.outMonlOff), (c.ports.monhOff, Instr.outMonhOff), (c.ports.monlOn, Instr.outMonlOn),
      (c.ports.monhOn, Instr.outMonhOn), (c.ports.monAll, Instr.outMonAll)]
    ++ (if c.overlay then
        [(c.ports.pcgOpen, Instr.outPcgOpen (v.extractLsb' 0 2)), (c.ports.pcgClose, Instr.outPcgClose)] else [])
    ++ (if c.hasFlash then [(c.ports.bootPage, Instr.outBootPage v)] else [])
    ++ (if c.overlay then [(c.ports.priority, Instr.outPriority (v.extractLsb' 0 2))] else [])

theorem portRows_ports (c : Config) (v : Byte) : (portRows c v).map Prod.fst = c.definedPorts := by
  unfold portRows Config.definedPorts
  cases c.overlay <;> cases c.hasFlash <;> rfl

/-- A port write is the operation of a row with its port, or an undefined port. -/
theorem portOp_cases (c : Config) (p : Port) (v : Byte) :
    (p, portOp c p v) ∈ portRows c v ∨ (p ∉ c.definedPorts ∧ portOp c p v = .outUndef p) := by
  rw [← portRows_ports c v]
  unfold portOp
  split_ifs
  iterate 9 · exact .inl (by simp_all [portRows])
  · exact .inr ⟨by simp_all [portRows], rfl⟩

/-- The ports differ (00 R7), so the row of a port is what a write to it is. -/
theorem portOp_of_row (hc : c.Ok) (h : (p, i) ∈ portRows c v) : portOp c p v = i := by
  have hnodup : ((portRows c v).map Prod.fst).Nodup := by
    obtain ⟨-, ⟨hports, -⟩, -⟩ := hc
    rwa [portRows_ports]
  obtain hrow | ⟨hundef, -⟩ := portOp_cases c p v
  · exact congrArg Prod.snd (List.inj_on_of_nodup_map hnodup hrow h rfl)
  · rw [← portRows_ports c v] at hundef
    exact absurd (List.mem_map_of_mem h) hundef

theorem portOp_of_undefined (h : p ∉ c.definedPorts) (v : Byte) : portOp c p v = .outUndef p := by
  obtain hrow | ⟨-, hop⟩ := portOp_cases c p v
  · rw [← portRows_ports c v] at h
    exact absurd (List.mem_map_of_mem hrow) h
  · exact hop

/-- A 2-bit operand widened to the data field and cut again is the operand. -/
theorem low2_setWidth (k : BitVec 2) : (k.setWidth 8).extractLsb' 0 2 = k := by
  revert k
  decide

/-! The rows of the ports that not every core has (40 R145 to R148). -/

theorem pcgOpen_row (h : c.overlay = true) (k : BitVec 2) :
    (c.ports.pcgOpen, .outPcgOpen k) ∈ portRows c (k.setWidth 8) := by
  simp [portRows, h, low2_setWidth]

theorem pcgClose_row (h : c.overlay = true) (v : Byte) : (c.ports.pcgClose, .outPcgClose) ∈ portRows c v := by
  simp [portRows, h]

theorem bootPage_row (h : c.hasFlash = true) (v : Byte) : (c.ports.bootPage, .outBootPage v) ∈ portRows c v := by
  simp [portRows, h]

theorem priority_row (h : c.overlay = true) (k : BitVec 2) :
    (c.ports.priority, .outPriority k) ∈ portRows c (k.setWidth 8) := by
  simp [portRows, h, low2_setWidth]

theorem decode_of_row (hc : x.cfg.Ok) (h : (p, i) ∈ portRows x.cfg v) : decode x (encodeOut p v) = .ok i := by
  rw [decode_encodeOut, portOp_of_row hc h]

/-! ## The encoding of a flash operation is decoded to it (30 R94, R98) -/

theorem maskFa_of_lt (h : fa < c.flashSize) : maskFa c fa = fa := Nat.mod_eq_of_lt h

/-- The flash holds the addresses of the commands (00 R7). -/
theorem lt_flashSize (hc : c.Ok) (hf : c.hasFlash = true) (h : fa < 0x8000) : fa < c.flashSize := by
  obtain ⟨-, -, ⟨-, -, -, -, -, hflash⟩, -⟩ := hc
  exact Nat.lt_of_lt_of_le h (hflash hf).2

theorem flashCmdAddrMask_eq (hc : c.Ok) (hf : c.hasFlash = true) : c.flashCmdAddrMask = 0x7FFF := by
  obtain ⟨-, -, -, hcmd, -⟩ := hc
  exact (hcmd hf).1

theorem decode_flashRd (hf : x.cfg.hasFlash = true) (h : fa < x.cfg.flashSize) : decode x (.flashRd fa) = .ok (frdOp x fa) := by
  simp only [decode, hf, if_true, maskFa_of_lt h]

theorem decode_flashWr (hf : x.cfg.hasFlash = true) (h : fa < x.cfg.flashSize) (v : Byte) :
    decode x (.flashWr fa v) = .ok (fwrOp x fa v) := by
  simp only [decode, hf, if_true, maskFa_of_lt h]

/-! ### Reads -/

theorem decode_frdStatus (hwf : fa < x.cfg.flashSize) (h : rowHolds x (.frdStatus fa) = true) :
    decode x (.flashRd fa) = .ok (.frdStatus fa) := by
  simp only [rowHolds, Bool.and_eq_true, decide_eq_true_eq] at h
  obtain ⟨hf, hbusy⟩ := h
  rw [decode_flashRd hf hwf, frdOp, if_pos hbusy]

theorem decode_frdId (hc : x.cfg.Ok) (hwf : fa ≤ 1) (h : rowHolds x (.frdId fa) = true) :
    decode x (.flashRd fa) = .ok (.frdId fa) := by
  simp only [rowHolds, Bool.and_eq_true, decide_eq_true_eq] at h
  obtain ⟨⟨hf, hidle⟩, hid⟩ := h
  rw [decode_flashRd hf (lt_flashSize hc hf (by omega)), frdOp, if_neg (by omega), if_pos (by simp [hid, hwf])]

theorem decode_frdArray (hwf : fa < x.cfg.flashSize) (h : rowHolds x (.frdArray fa) = true) :
    decode x (.flashRd fa) = .ok (.frdArray fa) := by
  simp only [rowHolds, Bool.and_eq_true, decide_eq_true_eq, Bool.not_eq_true'] at h
  obtain ⟨⟨hf, hidle⟩, hid⟩ := h
  rw [decode_flashRd hf hwf, frdOp, if_neg (by omega), if_neg (by simp [hid])]

/-! ### Writes: what the comparison codes of the encodings are (30 R94) -/

theorem comparisonCode_unlock1 (hc : c.Ok) (hf : c.hasFlash = true) : comparisonCode c 0x5555 0xAA = fcUnlock1 :=
  (comparisonCode_eq (flashCmdAddrMask_eq hc hf) _ _ _).2 ⟨rfl, rfl⟩

theorem comparisonCode_unlock2 (hc : c.Ok) (hf : c.hasFlash = true) : comparisonCode c 0x2AAA 0x55 = fcUnlock2 :=
  (comparisonCode_eq (flashCmdAddrMask_eq hc hf) _ _ _).2 ⟨rfl, rfl⟩

theorem comparisonCode_chip (hc : c.Ok) (hf : c.hasFlash = true) : comparisonCode c 0x5555 0x10 = fcChip :=
  (comparisonCode_eq (flashCmdAddrMask_eq hc hf) _ _ _).2 ⟨rfl, rfl⟩

/-- Of the codes at the command address the data byte decides. -/
theorem comparisonCode_command (hc : c.Ok) (hf : c.hasFlash = true) (v w : Byte) :
    comparisonCode c 0x5555 v = 0x5555#15 ++ w ↔ v = w := by
  have hcode : comparisonCode c 0x5555 v = 0x5555#15 ++ v := by
    rw [comparisonCode, flashCmdAddrMask_eq hc hf]
    rfl
  rw [hcode]
  exact BitVec.append_right_inj _

/-- A write with another data byte has another code. -/
theorem comparisonCode_ne (hc : c.Ok) (hf : c.hasFlash = true) (fa : Nat) {code : BitVec 23}
    (h : v.toNat ≠ code.toNat % 2 ^ 8) :
    comparisonCode c fa v ≠ code :=
  fun e => h ((comparisonCode_eq (flashCmdAddrMask_eq hc hf) fa v code).1 e).2

/-! ### Writes: one equation per cycle state (42 R233) -/

theorem flashAt_iff {k : Cycle} : flashAt x k = true ↔ x.cfg.hasFlash = true ∧ x.flash.busy = 0 ∧ x.flash.cycle = k := by
  simp only [flashAt, Bool.and_eq_true, decide_eq_true_eq, and_assoc]

theorem fwrOp_idle (h : flashAt x .idle = true) (fa : Nat) (v : Byte) : fwrOp x fa v =
    if comparisonCode x.cfg fa v = fcUnlock1 then .fUnlock1
    else if v = resetByte ∧ x.cfg.f0Policy = .idleOnly then .fReset fa else .fMismatch fa v := by
  obtain ⟨-, hb, hk⟩ := flashAt_iff.1 h
  simp [fwrOp, hb, hk]

theorem fwrOp_unlock1 (h : flashAt x .unlock1 = true) (fa : Nat) (v : Byte) : fwrOp x fa v =
    if comparisonCode x.cfg fa v = fcUnlock2 then .fUnlock2 else .fMismatch fa v := by
  obtain ⟨-, hb, hk⟩ := flashAt_iff.1 h
  simp [fwrOp, hb, hk]

/-- At the command address, by the data byte. -/
theorem fwrOp_unlock2 (hc : x.cfg.Ok) (h : flashAt x .unlock2 = true) (v : Byte) : fwrOp x 0x5555 v =
    if v = 0xA0#8 then .fProgramSetup
    else if v = 0x80#8 then .fEraseSetup
    else if v = x.cfg.flashCmdIdEntry then .fIdEntry
    else if v = x.cfg.flashCmdIdExit then .fIdExit else .fMismatch 0x5555 v := by
  obtain ⟨hf, hb, hk⟩ := flashAt_iff.1 h
  have hprogram : fcProgram = 0x5555#15 ++ 0xA0#8 := rfl
  have herase : fcErase = 0x5555#15 ++ 0x80#8 := rfl
  simp only [fwrOp, hb, hk, hprogram, herase, fcIdEntry, fcIdExit, comparisonCode_command hc hf, lt_irrefl, if_false]

theorem fwrOp_programSel (h : flashAt x .programSel = true) (fa : Nat) (v : Byte) : fwrOp x fa v = .fProgramData fa v := by
  obtain ⟨-, hb, hk⟩ := flashAt_iff.1 h
  simp [fwrOp, hb, hk]

theorem fwrOp_eraseSel (h : flashAt x .eraseSel = true) (fa : Nat) (v : Byte) : fwrOp x fa v =
    if comparisonCode x.cfg fa v = fcUnlock1 then .fEraseUnlock1 else .fMismatch fa v := by
  obtain ⟨-, hb, hk⟩ := flashAt_iff.1 h
  simp [fwrOp, hb, hk]

theorem fwrOp_eraseUnlock1 (h : flashAt x .eraseUnlock1 = true) (fa : Nat) (v : Byte) : fwrOp x fa v =
    if comparisonCode x.cfg fa v = fcUnlock2 then .fEraseUnlock2 else .fMismatch fa v := by
  obtain ⟨-, hb, hk⟩ := flashAt_iff.1 h
  simp [fwrOp, hb, hk]

theorem fwrOp_eraseUnlock2 (h : flashAt x .eraseUnlock2 = true) (fa : Nat) (v : Byte) : fwrOp x fa v =
    if comparisonCode x.cfg fa v = fcChip then .fChipErase
    else if v = sectorByte then .fSectorErase fa else .fMismatch fa v := by
  obtain ⟨-, hb, hk⟩ := flashAt_iff.1 h
  simp [fwrOp, hb, hk]

/-- Where no command of the cycle state matches, a write is a mismatch (42 R232). -/
theorem fwrOp_mismatch (hb : x.flash.busy = 0) (h : noCommand x fa v = true) : fwrOp x fa v = .fMismatch fa v := by
  unfold noCommand at h
  unfold fwrOp
  rw [if_neg (by omega)]
  cases hk : x.flash.cycle with
  | idle =>
    rw [hk] at h
    simp only [← Bool.decide_and, ← decide_not, decide_eq_true_eq] at h
    obtain ⟨hcode, hreset⟩ := h
    exact (if_neg hcode).trans (if_neg hreset)
  | programSel => simp [hk] at h
  | _ => simp_all

/-! ### Writes: the rows -/

/-- The encoding of a command is decoded to what its write is in the cycle state. -/
theorem decode_command {k : Cycle} (hc : x.cfg.Ok) (h : flashAt x k = true) (hfa : fa < 0x8000) (hop : fwrOp x fa v = i) :
    decode x (.flashWr fa v) = .ok i := by
  obtain ⟨hf, -, -⟩ := flashAt_iff.1 h
  rw [decode_flashWr hf (lt_flashSize hc hf hfa), hop]

theorem decode_fwrBusy (hwf : fa < x.cfg.flashSize) (h : rowHolds x (.fwrBusy fa v) = true) :
    decode x (.flashWr fa v) = .ok (.fwrBusy fa v) := by
  simp only [rowHolds, Bool.and_eq_true, decide_eq_true_eq] at h
  obtain ⟨hf, hbusy⟩ := h
  rw [decode_flashWr hf hwf, fwrOp, if_pos hbusy]

theorem decode_fUnlock1 (hc : x.cfg.Ok) (h : flashAt x .idle = true) : decode x (.flashWr 0x5555 0xAA) = .ok .fUnlock1 := by
  obtain ⟨hf, -, -⟩ := flashAt_iff.1 h
  exact decode_command hc h (by decide) ((fwrOp_idle h _ _).trans (if_pos (comparisonCode_unlock1 hc hf)))

theorem decode_fReset (hc : x.cfg.Ok) (hwf : fa < x.cfg.flashSize) (h : rowHolds x (.fReset fa) = true) :
    decode x (.flashWr fa resetByte) = .ok (.fReset fa) := by
  simp only [rowHolds, Bool.and_eq_true, decide_eq_true_eq] at h
  obtain ⟨hidle, hpolicy⟩ := h
  obtain ⟨hf, -, -⟩ := flashAt_iff.1 hidle
  rw [decode_flashWr hf hwf, fwrOp_idle hidle, if_neg (comparisonCode_ne hc hf fa (by decide)), if_pos ⟨rfl, hpolicy⟩]

theorem decode_fUnlock2 (hc : x.cfg.Ok) (h : flashAt x .unlock1 = true) :
    decode x (.flashWr 0x2AAA 0x55) = .ok .fUnlock2 := by
  obtain ⟨hf, -, -⟩ := flashAt_iff.1 h
  exact decode_command hc h (by decide) ((fwrOp_unlock1 h _ _).trans (if_pos (comparisonCode_unlock2 hc hf)))

theorem decode_fProgramSetup (hc : x.cfg.Ok) (h : flashAt x .unlock2 = true) :
    decode x (.flashWr 0x5555 0xA0) = .ok .fProgramSetup :=
  decode_command hc h (by decide) ((fwrOp_unlock2 hc h _).trans (if_pos rfl))

theorem decode_fEraseSetup (hc : x.cfg.Ok) (h : flashAt x .unlock2 = true) :
    decode x (.flashWr 0x5555 0x80) = .ok .fEraseSetup :=
  decode_command hc h (by decide) ((fwrOp_unlock2 hc h _).trans rfl)

/-- The data bytes of the four commands after the second unlock differ (00 R7). -/
theorem commandBytes_distinct (hc : c.Ok) (hf : c.hasFlash = true) :
    (c.flashCmdIdEntry ≠ 0xA0#8 ∧ c.flashCmdIdEntry ≠ 0x80#8)
      ∧ c.flashCmdIdExit ≠ 0xA0#8 ∧ c.flashCmdIdExit ≠ 0x80#8 ∧ c.flashCmdIdExit ≠ c.flashCmdIdEntry := by
  obtain ⟨-, -, -, hcmd, -⟩ := hc
  have hnodup := (hcmd hf).2
  simp only [List.nodup_cons, List.mem_cons, List.not_mem_nil, or_false, not_or] at hnodup
  obtain ⟨⟨hne, hentryA, hentry8⟩, ⟨hexitA, hexit8⟩, -⟩ := hnodup
  exact ⟨⟨hentryA, hentry8⟩, hexitA, hexit8, Ne.symm hne⟩

theorem decode_fIdEntry (hc : x.cfg.Ok) (h : flashAt x .unlock2 = true) :
    decode x (.flashWr 0x5555 x.cfg.flashCmdIdEntry) = .ok .fIdEntry := by
  obtain ⟨hf, -, -⟩ := flashAt_iff.1 h
  obtain ⟨⟨hprogram, herase⟩, -⟩ := commandBytes_distinct hc hf
  refine decode_command hc h (by decide) ?_
  rw [fwrOp_unlock2 hc h, if_neg hprogram, if_neg herase, if_pos rfl]

theorem decode_fIdExit (hc : x.cfg.Ok) (h : flashAt x .unlock2 = true) :
    decode x (.flashWr 0x5555 x.cfg.flashCmdIdExit) = .ok .fIdExit := by
  obtain ⟨hf, -, -⟩ := flashAt_iff.1 h
  obtain ⟨-, hprogram, herase, hentry⟩ := commandBytes_distinct hc hf
  refine decode_command hc h (by decide) ?_
  rw [fwrOp_unlock2 hc h, if_neg hprogram, if_neg herase, if_neg hentry, if_pos rfl]

theorem decode_fProgramData (hwf : fa < x.cfg.flashSize) (h : flashAt x .programSel = true) (v : Byte) :
    decode x (.flashWr fa v) = .ok (.fProgramData fa v) := by
  obtain ⟨hf, -, -⟩ := flashAt_iff.1 h
  rw [decode_flashWr hf hwf, fwrOp_programSel h]

theorem decode_fEraseUnlock1 (hc : x.cfg.Ok) (h : flashAt x .eraseSel = true) :
    decode x (.flashWr 0x5555 0xAA) = .ok .fEraseUnlock1 := by
  obtain ⟨hf, -, -⟩ := flashAt_iff.1 h
  exact decode_command hc h (by decide) ((fwrOp_eraseSel h _ _).trans (if_pos (comparisonCode_unlock1 hc hf)))

theorem decode_fEraseUnlock2 (hc : x.cfg.Ok) (h : flashAt x .eraseUnlock1 = true) :
    decode x (.flashWr 0x2AAA 0x55) = .ok .fEraseUnlock2 := by
  obtain ⟨hf, -, -⟩ := flashAt_iff.1 h
  exact decode_command hc h (by decide) ((fwrOp_eraseUnlock1 h _ _).trans (if_pos (comparisonCode_unlock2 hc hf)))

theorem decode_fChipErase (hc : x.cfg.Ok) (h : flashAt x .eraseUnlock2 = true) :
    decode x (.flashWr 0x5555 0x10) = .ok .fChipErase := by
  obtain ⟨hf, -, -⟩ := flashAt_iff.1 h
  exact decode_command hc h (by decide) ((fwrOp_eraseUnlock2 h _ _).trans (if_pos (comparisonCode_chip hc hf)))

theorem decode_fSectorErase (hc : x.cfg.Ok) (hwf : fa < x.cfg.flashSize) (h : flashAt x .eraseUnlock2 = true) :
    decode x (.flashWr fa sectorByte) = .ok (.fSectorErase fa) := by
  obtain ⟨hf, -, -⟩ := flashAt_iff.1 h
  rw [decode_flashWr hf hwf, fwrOp_eraseUnlock2 h, if_neg (comparisonCode_ne hc hf fa (by decide)), if_pos rfl]

theorem decode_fMismatch (hwf : fa < x.cfg.flashSize) (h : rowHolds x (.fMismatch fa v) = true) :
    decode x (.flashWr fa v) = .ok (.fMismatch fa v) := by
  simp only [rowHolds, Bool.and_eq_true, decide_eq_true_eq] at h
  obtain ⟨⟨hf, hidle⟩, hno⟩ := h
  rw [decode_flashWr hf hwf, fwrOp_mismatch hidle hno]

/-! ## The round trip -/

/-- Settles O1, by the operations of 30 R96: a carrier is no row and an event of the core has no encoding; each other operation is
what the decoder answers for its encoding. -/
theorem decodeInvertsEncode : Obligations.DecodeInvertsEncode := by
  intro x i r hc hwf hrow henc
  cases i with
  | memrd | memwr | iowr | frd | fwr => cases hrow
  | evNewline | evHblankS | evHblankE | evHsyncS | evHsyncE | evPcgwin | renderLine => cases henc
  | tick | tempo | blink | present | initCore | reset | snapSave | snapLoad | release => cases henc; rfl
  | memPcgwin acc a => cases henc; exact decode_memPcgwin hrow
  | memMmioPio acc k => cases henc; exact decode_intercepted hrow
  | memMmioPit acc k => cases henc; exact decode_intercepted hrow
  | memMmioAux acc => cases henc; exact decode_intercepted hrow
  | memPcgwData acc => cases henc; exact decode_intercepted hrow
  | memPcgwAddr acc => cases henc; exact decode_intercepted hrow
  | memPcgwCtrl acc => cases henc; exact decode_intercepted hrow
  | memBootflash acc off => cases henc; exact decode_memBootflash hc hrow
  | memBootrom acc off => cases henc; exact decode_memBootrom hc hrow
  | memVram acc off => cases henc; exact decode_memVram hc hrow
  | memWindow acc a => cases henc; exact decode_memWindow hrow
  | iord p => cases henc; exact (decode_iord ..).trans (by rw [port_setWidth])
  | outMonlOff => cases henc; exact decode_of_row hc (by simp [portRows])
  | outMonhOff => cases henc; exact decode_of_row hc (by simp [portRows])
  | outMonlOn => cases henc; exact decode_of_row hc (by simp [portRows])
  | outMonhOn => cases henc; exact decode_of_row hc (by simp [portRows])
  | outMonAll => cases henc; exact decode_of_row hc (by simp [portRows])
  | outPcgOpen bank => cases henc; exact decode_of_row hc (pcgOpen_row hrow bank)
  | outPcgClose => cases henc; exact decode_of_row hc (pcgClose_row hrow 0)
  | outBootPage v => cases henc; exact decode_of_row hc (bootPage_row hrow v)
  | outPriority k => cases henc; exact decode_of_row hc (priority_row hrow k)
  | outUndef p => cases henc; exact (decode_encodeOut ..).trans (by rw [portOp_of_undefined (of_decide_eq_true hrow)])
  | frdStatus fa => cases henc; exact decode_frdStatus (of_decide_eq_true hwf) hrow
  | frdId fa => cases henc; exact decode_frdId hc (of_decide_eq_true hwf) hrow
  | frdArray fa => cases henc; exact decode_frdArray (of_decide_eq_true hwf) hrow
  | fwrBusy fa v => cases henc; exact decode_fwrBusy (of_decide_eq_true hwf) hrow
  | fUnlock1 => cases henc; exact decode_fUnlock1 hc hrow
  | fReset fa => cases henc; exact decode_fReset hc (of_decide_eq_true hwf) hrow
  | fUnlock2 => cases henc; exact decode_fUnlock2 hc hrow
  | fProgramSetup => cases henc; exact decode_fProgramSetup hc hrow
  | fEraseSetup => cases henc; exact decode_fEraseSetup hc hrow
  | fIdEntry => cases henc; exact decode_fIdEntry hc hrow
  | fIdExit => cases henc; exact decode_fIdExit hc hrow
  | fProgramData fa v => cases henc; exact decode_fProgramData (of_decide_eq_true hwf) hrow v
  | fEraseUnlock1 => cases henc; exact decode_fEraseUnlock1 hc hrow
  | fEraseUnlock2 => cases henc; exact decode_fEraseUnlock2 hc hrow
  | fChipErase => cases henc; exact decode_fChipErase hc hrow
  | fSectorErase fa => cases henc; exact decode_fSectorErase hc (of_decide_eq_true hwf) hrow
  | fMismatch fa v => cases henc; exact decode_fMismatch (of_decide_eq_true hwf) hrow

end Sys2Proof.Machine
end

section
/-! SUPPORT. The statements of 40_bank_map_mode_latch: the bounds of the windows, what MEMRD and MEMWR do where the Bank Map takes
them, the flash and the registers behind the other accesses, and the ports with the windows they leave. -/

namespace Sys2Proof.Machine

open Sys2Proof.Claims

variable {s t : State} {c : Config} {l : Latch} {a : Addr} {b : Buffer} {p : Port} {v : Byte} {w off : Nat}

/-! ## The bounds of the windows -/

/-- The sources of the Bank Map (40 R121): a ROM, or the writable buffer that is the window's sink as well. -/
theorem derive_source (h : (derive c l w).rsrc.buffer = some b) :
    b = .ipl ∧ w ≤ 1 ∧ (derive c l w).roff = w * 0x800
      ∨ b = .cgrom ∧ (derive c l w).roff = (w - 26) % 2 * 0x800
      ∨ b = .ext ∧ (derive c l w).roff = (w - 29) * 0x800
      ∨ (derive c l w).wsink.buffer = some b ∧ (derive c l w).roff = (derive c l w).woff := by
  unfold derive at h ⊢
  split_ifs at h ⊢ <;> simp_all [ramWindow, dummyWindow, romWindow, ReadSource.buffer, WriteSink.buffer]

/-- No source reaches outside its buffer (40 R122). -/
theorem source_inside (hc : c.Ok) (hw : w < 32) (h : (derive c l w).rsrc.buffer = some b) :
    (derive c l w).roff + 0x7FF < bufferSize c b := by
  obtain ⟨-, -, ⟨hipl, -, hcg, -, hext, -⟩, -, -⟩ := id hc
  obtain ⟨rfl, hlow, ho⟩ | ⟨rfl, ho⟩ | ⟨rfl, ho⟩ | ⟨hsink, ho⟩ := derive_source h
  · simp only [ho, bufferSize, hipl, lowSize]
    omega
  · simp only [ho, bufferSize]
    omega
  · simp only [ho, bufferSize, hext]
    omega
  · exact ho ▸ sink_inside hc hw hsink

/-- Settles O17: the sources and the sinks of the Bank Map, each against its buffer's size. -/
theorem windowsStayInsideTheirBuffers : Obligations.WindowsStayInsideTheirBuffers :=
  fun _ _ _ hc hw => ⟨fun _ => source_inside hc hw, fun _ => sink_inside hc hw⟩

/-! ## MEMRD and MEMWR where the Bank Map takes them -/

/-- `STALL` after the stall check of an access: raised in an open PCG window outside the safe window (41 R183). -/
def State.stallAfter (s : State) (a : Addr) : Bool := s.raster.stall || (inOpenPcg s a && !s.raster.pcgSafe)

/-- The stall check moves the stall alone, and records the change. -/
theorem stallCheckAt_eq : s.stallCheckAt a =
    { s with raster := { s.raster with stall := s.stallAfter a }
             trace := s.trace ++ records .busreq s.raster.stall (s.stallAfter a) } := by
  unfold State.stallCheckAt State.stallAfter
  cases hopen : inOpenPcg s a with
  | false => simp [records]
  | true =>
    rw [if_pos rfl, pcgStallCheck_eq (overlay_of_inPcgWin (inPcgWin_eq_inOpenPcg.trans hopen))]
    split
    · next h =>
      obtain ⟨hsafe, hstall⟩ := h
      simp [records, hsafe, hstall]
    · next h =>
      have hkept : (s.raster.stall || !s.raster.pcgSafe) = s.raster.stall := by simpa using h
      simp only [Bool.true_and, hkept, records, if_true, List.append_nil]

/-- A window write changes the memories and its answer alone. -/
theorem winAccess_write_frame (n : Nat) : s.winAccess (.write v) a n
    = { s with mems := (s.winAccess (.write v) a n).mems, result := .memWrite n } := by
  rw [winAccess_write, State.answer_mems]
  conv_lhs => rw [winWrite_frame]
  rfl

/-- Settles O19: the access is the stall check and a window read. -/
theorem memrdReturnsTheMappedByte : Obligations.MemrdReturnsTheMappedByte := by
  intro s a hl hc hi hf
  have hbyte : (s.stallCheckAt a).winRead a = readByte s a := by
    rw [← winRead_eq_readByte]
    exact winRead_congr State.stallCheckAt_cfg State.stallCheckAt_latch State.stallCheckAt_mems
  rw [exec_memrd hl, memAccess_of_mapped hc hi hf, winAccess_read, hbyte, stallCheckAt_eq]
  rfl

/-- Settles O20: the access is the stall check and a window write. -/
theorem memwrStoresThroughTheMap : Obligations.MemwrStoresThroughTheMap := by
  intro s a v hl hg hi hf
  have hacc := memAccess_of_mapped hg.cfgOk hi hf (.write v)
  refine ⟨(s.stallCheckAt a).winAccess (.write v) a (expectedWait s a), ?_, ?_, ?_⟩
  · rw [exec_memwr hl, hacc]
  · exact hacc ▸ stores_memwr_of_mapped hg hi hf v
  · rw [stallCheckAt_eq]
    exact winAccess_write_frame _

/-! ## The flash in the low window -/

/-- Settles O27: both are the flash's read and write at the same address. -/
theorem bootFlashAccessIsTheFlashOperation : Obligations.BootFlashAccessIsTheFlashOperation := by
  intro s off v hl hf
  exact ⟨⟨_, _, whenFlash_of_flash hl hf, rfl, whenFlash_of_flash hl hf⟩, _, whenFlash_of_flash hl hf, whenFlash_of_flash hl hf⟩

/-! ## Memory-mapped registers -/

/-- An operation of a living core answers from the state that its writer leaves. -/
theorem whenLive_answer_of_eq (hl : s.life = .live) {u : State} (ht : t = u) (x : Result) :
    s.whenLive (t.answer x) = .next { u with result := x } := by
  rw [whenLive_of_live hl, ht, State.answer]

/-- Settles O28: the byte of a read is the collaborator's. -/
theorem peripheralAccessesAreForwarded : Obligations.PeripheralAccessesAreForwarded := by
  intro s k v hl
  refine ⟨⟨Config.periphByte .pio k.toNat s.draws, ?_⟩, ⟨Config.periphByte .pit k.toNat s.draws, ?_⟩,
    ⟨Config.periphByte .aux 0 s.draws, ?_⟩, ?_, ?_, ?_⟩
  all_goals exact whenLive_of_live hl

/-! The registers of the PCG write port, on a core that has it (40 R136 to R138). -/

theorem setPcgData_present (h : s.cfg.hasPcgPort = true) (v : Byte) : s.setPcgData v = { s with latch.pcgData := v } := if_pos h
theorem setPcgAddr_present (h : s.cfg.hasPcgPort = true) (v : Byte) : s.setPcgAddr v = { s with latch.pcgAddr := v } := if_pos h
theorem setPcgCtrl_present (h : s.cfg.hasPcgPort = true) (v : Byte) : s.setPcgCtrl v = { s with latch.pcgCtrl := v } := if_pos h

/-- Settles O29, register by register. -/
theorem pcgPortLatchesLoad : Obligations.PcgPortLatchesLoad := by
  intro s v hl hp
  constructor
  · exact whenLive_answer_of_eq hl (setPcgData_present hp v) (.memWrite 0)
  · exact whenLive_answer_of_eq hl (setPcgAddr_present hp v) (.memWrite 0)

/-- The offset of a pattern byte lies in one of the two pattern halves (40 R138). -/
theorem pcgPortOffset_range (d q : Byte) : 0x400 ≤ (pcgPortOffset d q).toNat ∧ (pcgPortOffset d q).toNat < 0x800
    ∨ 0xC00 ≤ (pcgPortOffset d q).toNat ∧ (pcgPortOffset d q).toNat < 0x1000 := by
  have hq := q.isLt
  rw [pcgPortOffset_toNat]
  split <;> omega

theorem pcgStrobe_iff (h : s.cfg.hasPcgPort = true) (d : Byte) :
    s.pcgStrobe d = true ↔ s.latch.pcgCtrl.getLsbD 4 = false ∧ d.getLsbD 4 = true := by
  simp [State.pcgStrobe, h]

/-- On the edge the pattern byte is stored and no other byte changes (40 R138). -/
theorem stores_pcgPortWrite (h : s.Good) {d : Byte} (hd : s.pcgStrobe d = true) :
    Stores s (s.pcgPortWrite d) (some (.pcg, (pcgPortOffset d s.latch.pcgAddr).toNat))
      (if d.getLsbD 5 then s.peek .cgrom ((pcgPortOffset d s.latch.pcgAddr).toNat % s.cfg.cgSize) else s.latch.pcgData) := by
  obtain ⟨⟨hsorted, -⟩, -⟩ := h.bufferOk .pcg
  intro b k
  simp only [State.pcgPortWrite, hd, if_true, peek_poke hsorted, Option.some.injEq, Prod.mk.injEq, eq_comm]

theorem pcgPortWrite_mems_frame (d : Byte) : s.pcgPortWrite d = { s with mems := (s.pcgPortWrite d).mems } := by
  rw [pcgPortWrite_frame]

theorem pcgPortWrite_of_no_edge {d : Byte} (hd : ¬s.pcgStrobe d = true) : s.pcgPortWrite d = s := if_neg hd

/-- Settles O30: the control byte is latched after the pattern write of its edge, and the registers read as the dummy. -/
theorem pcgControlWritesOnTheRisingEdge : Obligations.PcgControlWritesOnTheRisingEdge := by
  intro s d hl hg hp
  simp only [← pcgPortOffset_toNat, ← pcgStrobe_iff hp]
  have hport : (s.pcgPortWrite d).cfg.hasPcgPort = true := by rw [pcgPortWrite_frame]; exact hp
  refine ⟨pcgPortOffset_range d _, ⟨((s.pcgPortWrite d).setPcgCtrl d).answer (.memWrite 0), whenLive_of_live hl, ?_,
    fun hedge b k => ?_, fun hedge => ?_⟩, whenLive_of_live hl, whenLive_of_live hl, whenLive_of_live hl⟩
  · rw [setPcgCtrl_present hport]
    conv_lhs => rw [pcgPortWrite_mems_frame]
    rfl
  · rw [← stores_pcgPortWrite hg hedge b k]
    exact peek_congr (by simp) (by simp) b k
  · rw [State.answer_mems, State.setPcgCtrl_mems, pcgPortWrite_of_no_edge hedge]

/-! ## The bits of MODE after a port write -/

/-- The bit that is written. -/
theorem getLsbD_modeWith_same (m : BitVec 3) {i : Nat} (hi : i < 3) (x : Bool) : (modeWith m i x).getLsbD i = x :=
  (getLsbD_modeWith m hi x).trans (if_pos rfl)

/-- The bits that are not written. -/
theorem getLsbD_modeWith_other (m : BitVec 3) {i j : Nat} (hj : j < 3) (hne : j ≠ i) (x : Bool) :
    (modeWith m i x).getLsbD j = m.getLsbD j :=
  (getLsbD_modeWith m hj x).trans (if_neg hne)

theorem setMonL_bits (x : Bool) : (s.setMonL x).latch.monL = x ∧ (s.setMonL x).latch.monH = s.latch.monH
    ∧ (s.setMonL x).latch.pcgEn = s.latch.pcgEn :=
  ⟨getLsbD_modeWith_same _ (by decide) x, getLsbD_modeWith_other _ (by decide) (by decide) x,
    getLsbD_modeWith_other _ (by decide) (by decide) x⟩

theorem setMonH_bits (x : Bool) : (s.setMonH x).latch.monH = x ∧ (s.setMonH x).latch.monL = s.latch.monL
    ∧ (s.setMonH x).latch.pcgEn = s.latch.pcgEn :=
  ⟨getLsbD_modeWith_same _ (by decide) x, getLsbD_modeWith_other _ (by decide) (by decide) x,
    getLsbD_modeWith_other _ (by decide) (by decide) x⟩

/-! The registers of the overlay and of the flash, on a core that has them (40 R145 to R148). -/

theorem setPcgEn_present (h : s.cfg.overlay = true) (x : Bool) :
    s.setPcgEn x = { s with latch.mode := modeWith s.latch.mode 2 x } := if_pos h
theorem setPcgBank_present (h : s.cfg.overlay = true) (k : BitVec 2) : s.setPcgBank k = { s with latch.pcgBank := k } := if_pos h
theorem setPriority_present (h : s.cfg.overlay = true) (k : BitVec 2) : s.setPriority k = { s with latch.priority := k } := if_pos h
theorem setBootPage_present (h : s.cfg.hasFlash = true) (v : Byte) :
    s.setBootPage v = { s with latch.bootPage := v.toNat % s.cfg.pages } := if_pos h

theorem portPcgOpen_present (h : s.cfg.overlay = true) (k : BitVec 2) :
    s.portPcgOpen k = { s with latch := { s.latch with mode := modeWith s.latch.mode 2 true, pcgBank := k } } := by
  rw [State.portPcgOpen, setPcgEn_present h, setPcgBank_present (by exact h)]

theorem setPcgEn_bits (h : s.cfg.overlay = true) (x : Bool) : (s.setPcgEn x).latch.pcgEn = x
    ∧ (s.setPcgEn x).latch.monL = s.latch.monL ∧ (s.setPcgEn x).latch.monH = s.latch.monH := by
  rw [setPcgEn_present h]
  exact ⟨getLsbD_modeWith_same _ (by decide) x, getLsbD_modeWith_other _ (by decide) (by decide) x,
    getLsbD_modeWith_other _ (by decide) (by decide) x⟩

theorem portPcgOpen_bits (h : s.cfg.overlay = true) (k : BitVec 2) : (s.portPcgOpen k).latch.pcgEn = true
    ∧ (s.portPcgOpen k).latch.monL = s.latch.monL ∧ (s.portPcgOpen k).latch.monH = s.latch.monH := by
  have hbits := setPcgEn_bits h true
  rw [setPcgEn_present h] at hbits
  rw [portPcgOpen_present h]
  exact hbits

/-- MODE after OUT_MON_ALL (40 R144): a core without the overlay has `PCG_EN` = 0 already. -/
theorem portMonAll_eq (h : LatchOk s.cfg s.latch) : s.portMonAll = { s with latch.mode := 0b011 } := by
  have hset : ∀ m : BitVec 3, modeWith (modeWith (modeWith m 0 true) 1 true) 2 false = 0b011 := by decide
  have hkept : ∀ m : BitVec 3, m.getLsbD 2 = false → modeWith (modeWith m 0 true) 1 true = 0b011 := by decide
  obtain ⟨-, hov, -⟩ := h
  unfold State.portMonAll
  cases ho : s.cfg.overlay with
  | true =>
    rw [setPcgEn_present (by exact ho)]
    exact congrArg (fun m => ({ s with latch.mode := m } : State)) (hset s.latch.mode)
  | false =>
    rw [setPcgEn_absent (by exact ho)]
    exact congrArg (fun m => ({ s with latch.mode := m } : State)) (hkept s.latch.mode (hov ho).1)

/-- Settles O32, port by port. -/
theorem otherPortsWriteTheirFields : Obligations.OtherPortsWriteTheirFields := by
  refine ⟨fun s hl hlatch => ?monAll, fun s k hl ho => ⟨?opening, ?close, ?priority⟩, fun s v hl hf => ?bootPage⟩
  case monAll => exact whenLive_answer_of_eq hl (portMonAll_eq hlatch) .done
  case opening =>
    exact ⟨(s.portPcgOpen k).answer .done, whenLive_of_live hl, by rw [portPcgOpen_present ho]; rfl, portPcgOpen_bits ho k⟩
  case close =>
    exact ⟨(s.setPcgEn false).answer .done, whenLive_of_live hl, by rw [setPcgEn_present ho]; rfl, setPcgEn_bits ho false⟩
  case priority => exact whenLive_answer_of_eq hl (setPriority_present ho k) .done
  case bootPage => exact whenLive_answer_of_eq hl (setBootPage_present hf v) .done

/-! ## Port accesses -/

/-- A write to a port the core does not define is OUT_UNDEF (40 R139, R149). -/
theorem exec_iowr_of_undefined (h : p ∉ s.cfg.definedPorts) : exec (.iowr p v) s = exec (.outUndef p) s := by
  rw [← portOp_of_undefined h v, exec_portOp]
  rfl

/-- Settles O33: a port write changes the latch alone, and an undefined port has no rule. -/
theorem portAccessesTouchTheLatchOnly : Obligations.PortAccessesTouchTheLatchOnly := by
  intro s p v hl
  have hundef : exec (.outUndef p) s = .next { s with result := .done } := whenLive_of_live hl
  refine ⟨⟨(s.portWrite p v).answer .done, whenLive_of_live hl, ?_⟩, fun h => ?_, hundef, whenLive_of_live hl⟩
  · rw [State.answer_latch]
    conv_lhs => rw [portWrite_frame]
    rfl
  · rw [exec_iowr_of_undefined h, hundef]

/-! ## What the windows show, by the bits of MODE -/

/-- The low window (40 R140, R142). -/
theorem mapSource_low (ha : a.toNat < 0x1000) : mapSource s a
    = if s.latch.monL then (if s.cfg.hasFlash then none else some (.ipl, a.toNat)) else some (.ram, a.toNat) := if_pos ha

/-- The high windows while the overlay is closed (40 R141, R143). -/
theorem mapSource_high (ho : overlayOpen s = false) (ha : 0xD000 ≤ a.toNat) : mapSource s a =
    if s.latch.monH then
      if a.toNat < 0xE000 then some (.vram, a.toNat - 0xD000)
      else if a.toNat < 0xE800 then none
      else if s.cfg.extrom then some (.ext, a.toNat - 0xE800) else none
    else some (.ram, a.toNat) := by
  simp [mapSource, ho, Nat.not_lt.2 ha, show ¬a.toNat < 0x1000 by omega]

theorem winRead_of_mapSource (h : mapSource s a = some (b, off)) : s.winRead a = s.peek b off := by
  rw [winRead_eq_readByte, readByte, h]

theorem winRead_of_dummy (h : mapSource s a = none) : s.winRead a = 0xFF := by
  rw [winRead_eq_readByte, readByte, h]

theorem winTarget_of_mapSource (h : mapSource s a = some (b, off)) (hb : b ∉ [Buffer.ipl, .cgrom, .ext]) :
    s.winTarget a = some (b, off) := by
  rw [winTarget_eq_mapSink, mapSink, h]
  cases b
  case ipl | cgrom | ext => exact absurd (by decide) hb
  all_goals rfl

theorem winTarget_of_ipl (h : mapSource s a = some (.ipl, off)) : s.winTarget a = none := by
  rw [winTarget_eq_mapSink, mapSink, h]

/-! ### The low window -/

theorem inBoot_of_monL_off (hm : s.latch.monL = false) (a : Addr) : inBoot s.latch a = false := by
  rw [inBoot, hm, Bool.false_and]

theorem inBoot_of_monL_on (hm : s.latch.monL = true) (ha : a.toNat < 0x1000) : inBoot s.latch a = true := by
  rw [inBoot, hm, decide_eq_true ha, Bool.true_and]

theorem lowWindow_ram (hm : s.latch.monL = false) (ha : a.toNat < 0x1000) :
    s.winRead a = s.peek .ram a.toNat ∧ s.winTarget a = some (.ram, a.toNat) := by
  have h : mapSource s a = some (.ram, a.toNat) := by simp [mapSource_low ha, hm]
  exact ⟨winRead_of_mapSource h, winTarget_of_mapSource h (by decide)⟩

theorem lowWindow_rom (hm : s.latch.monL = true) (hf : s.cfg.hasFlash = false) (ha : a.toNat < 0x1000) :
    s.winRead a = s.peek .ipl a.toNat ∧ s.winTarget a = none := by
  have h : mapSource s a = some (.ipl, a.toNat) := by simp [mapSource_low ha, hm, hf]
  exact ⟨winRead_of_mapSource h, winTarget_of_ipl h⟩

/-- Accesses at an address are the operations they are decoded to (30 R96). -/
theorem accessesAre_of_memOp {op : Access → Instr} (h : ∀ acc, memOp s.context acc a = op acc) : AccessesAre s a op := by
  have heach : ∀ acc, s.whenLive (s.memAccess acc a) = exec (op acc) s := fun acc => by rw [← exec_memOp, h]
  exact ⟨heach .read, fun v => heach (.write v)⟩

/-- With `MON_L` = 1 an access in the low window over the flash is the flash access (40 R127). -/
theorem accessesAre_bootFlash (hc : s.cfg.Ok) (hm : s.latch.monL = true) (hf : s.cfg.hasFlash = true) (ha : a.toNat < 0x1000) :
    AccessesAre s a fun acc => .memBootflash acc (low12 a) := by
  refine accessesAre_of_memOp fun acc => ?_
  have h := memOp_bootAddr (x := s.context) hc hm acc (low12 a)
  rwa [bootAddr_low12 ha, if_pos (show s.context.cfg.hasFlash = true from hf)] at h

/-! ### The high windows -/

theorem intercepted_of_monH_off (hm : s.latch.monH = false) (a : Addr) : intercepted s.cfg s.latch a = none := by
  simp [intercepted, interceptActive, hm]

theorem intercepted_of_monH_on (ho : overlayOpen s = false) (hm : s.latch.monH = true) (a : Addr) :
    intercepted s.cfg s.latch a = mmioClass s.cfg a := by
  have hclosed : pcgOpen s.cfg s.latch = false := ho
  simp [intercepted, interceptActive, hm, hclosed]

theorem inVram_of_monH_off (hm : s.latch.monH = false) (a : Addr) : inVram s.cfg s.latch a = false := by
  simp [inVram, hm]

theorem highWindow_ram (ho : overlayOpen s = false) (hm : s.latch.monH = false) (ha : 0xD000 ≤ a.toNat) :
    s.winRead a = s.peek .ram a.toNat ∧ s.winTarget a = some (.ram, a.toNat) := by
  have h : mapSource s a = some (.ram, a.toNat) := by simp [mapSource_high ho ha, hm]
  exact ⟨winRead_of_mapSource h, winTarget_of_mapSource h (by decide)⟩

theorem highWindow_vram (ho : overlayOpen s = false) (hm : s.latch.monH = true) (hlo : 0xD000 ≤ a.toNat)
    (hhi : a.toNat ≤ 0xDFFF) :
    s.winRead a = s.peek .vram (a.toNat - 0xD000) ∧ s.winTarget a = some (.vram, a.toNat - 0xD000) := by
  have h : mapSource s a = some (.vram, a.toNat - 0xD000) := by
    simp [mapSource_high ho hlo, hm, show a.toNat < 0xE000 by omega]
  exact ⟨winRead_of_mapSource h, winTarget_of_mapSource h (by decide)⟩

theorem highWindow_io (ho : overlayOpen s = false) (hm : s.latch.monH = true) (hlo : 0xE000 ≤ a.toNat)
    (hhi : a.toNat ≤ 0xE7FF) : s.winRead a = 0xFF := by
  refine winRead_of_dummy ?_
  rw [mapSource_high ho (by omega), if_pos hm, if_neg (by omega), if_pos (by omega)]

theorem highWindow_ext (ho : overlayOpen s = false) (hm : s.latch.monH = true) (ha : 0xE800 ≤ a.toNat) :
    s.winRead a = if s.cfg.extrom then s.peek .ext (a.toNat - 0xE800) else 0xFF := by
  have h : mapSource s a = if s.cfg.extrom then some (.ext, a.toNat - 0xE800) else none := by
    rw [mapSource_high ho (by omega), if_pos hm, if_neg (by omega), if_neg (by omega)]
  split
  · next hx => exact winRead_of_mapSource (h.trans (if_pos hx))
  · next hx => exact winRead_of_dummy (h.trans (if_neg hx))

theorem overlayOpen_setMonH (s : State) (x : Bool) : overlayOpen (s.setMonH x) = overlayOpen s := by
  obtain ⟨-, -, hen⟩ := setMonH_bits (s := s) x
  rw [overlayOpen, overlayOpen, hen, State.setMonH_cfg]

/-- While the overlay is open no window depends on `MON_H` (40 R121). -/
theorem mapSource_setMonH_of_open (ho : overlayOpen s = true) (x : Bool) (a : Addr) :
    mapSource (s.setMonH x) a = mapSource s a := by
  obtain ⟨-, hlow, -⟩ := setMonH_bits (s := s) x
  have ho' : overlayOpen (s.setMonH x) = true := (overlayOpen_setMonH s x).trans ho
  simp only [mapSource, ho, ho', hlow, if_true]
  rfl

theorem window_setMonH_of_open (ho : overlayOpen s = true) (x : Bool) (a : Addr) :
    (s.setMonH x).winRead a = s.winRead a ∧ (s.setMonH x).winTarget a = s.winTarget a := by
  have h := mapSource_setMonH_of_open ho x a
  constructor
  · rw [winRead_eq_readByte, winRead_eq_readByte, readByte, readByte, h]
    rfl
  · rw [winTarget_eq_mapSink, winTarget_eq_mapSink, mapSink, mapSink, h]

/-! ## The four ports of a single bit -/

/-- Settles O31: each port writes its bit of MODE, and the windows follow from the bits. -/
theorem monPortsSetOneBit : Obligations.MonPortsSetOneBit := by
  intro s hl
  refine ⟨?monlOff, ?monhOff, ?monlOn, ?monhOn⟩
  case monlOff =>
    obtain ⟨hlow, hhigh, hen⟩ := setMonL_bits (s := s) false
    exact ⟨(s.setMonL false).answer .done, whenLive_of_live hl, rfl, hlow, hhigh, hen,
      fun a => ⟨inBoot_of_monL_off hlow a, fun ha => lowWindow_ram hlow ha⟩⟩
  case monhOff =>
    obtain ⟨hhigh, hlow, hen⟩ := setMonH_bits (s := s) false
    exact ⟨(s.setMonH false).answer .done, whenLive_of_live hl, rfl, hhigh, hlow, hen,
      fun hclosed a => ⟨intercepted_of_monH_off hhigh a, inVram_of_monH_off hhigh a,
        fun ha => highWindow_ram ((overlayOpen_setMonH s false).trans hclosed) hhigh ha⟩,
      fun hopen a => window_setMonH_of_open hopen false a⟩
  case monlOn =>
    obtain ⟨hlow, hhigh, hen⟩ := setMonL_bits (s := s) true
    exact ⟨(s.setMonL true).answer .done, whenLive_of_live hl, rfl, hlow, hhigh, hen,
      fun a ha => ⟨inBoot_of_monL_on hlow ha, fun hf => lowWindow_rom hlow hf ha,
        fun hc hf => accessesAre_bootFlash hc hlow hf ha⟩⟩
  case monhOn =>
    obtain ⟨hhigh, hlow, hen⟩ := setMonH_bits (s := s) true
    refine ⟨(s.setMonH true).answer .done, whenLive_of_live hl, rfl, hhigh, hlow, hen, fun hclosed a => ?_⟩
    have hshut : overlayOpen (s.setMonH true) = false := (overlayOpen_setMonH s true).trans hclosed
    exact ⟨intercepted_of_monH_on hshut hhigh a, fun hlo hhi => highWindow_vram hshut hhigh hlo hhi,
      fun hlo hhi => highWindow_io hshut hhigh hlo hhi, fun hlo => highWindow_ext hshut hhigh hlo⟩

end Sys2Proof.Machine
end

section
/-! SUPPORT. The statements of 41_raster_timing_wait: the records of the timed events and of one TICK, the two toggles, who moves the
raster group, and what the memory accesses cost. -/

namespace Sys2Proof.Machine

open Sys2Proof.Claims

variable {s t : State} {r : Request} {acc : Access} {a : Addr} {v : Byte}

/-! ## The records of a drive -/

@[simp] theorem records_self (g : Sig) (x : Bool) : records g x x = [] := if_pos rfl

/-- A drive appends the record of its level change. -/
theorem drive_trace (g : Sig) (x : Bool) (h : g = .busreq → s.cfg.overlay = true) :
    (s.drive g x).trace = s.trace ++ records g (sigLevel s.raster g) x := by
  by_cases e : sigLevel s.raster g = x
  · simp [drive_same e, e]
  · rw [drive_change e h, records, if_neg e]

@[simp] theorem drive_hblank_trace (x : Bool) :
    (s.drive .hblank x).trace = s.trace ++ records .hblank s.raster.hblank x := drive_trace .hblank x nofun
@[simp] theorem drive_hsync_trace (x : Bool) :
    (s.drive .hsync x).trace = s.trace ++ records .hsync s.raster.hsync x := drive_trace .hsync x nofun
@[simp] theorem drive_vblank_trace (x : Bool) :
    (s.drive .vblank x).trace = s.trace ++ records .vblank s.raster.vblank x := drive_trace .vblank x nofun
@[simp] theorem drive_vsync_trace (x : Bool) :
    (s.drive .vsync x).trace = s.trace ++ records .vsync s.raster.vsync x := drive_trace .vsync x nofun

theorem releaseStall_trace (h : s.cfg.overlay = true) :
    s.releaseStall.trace = s.trace ++ records .busreq s.raster.stall false := drive_trace .busreq false fun _ => h

@[simp] theorem hblankStart_trace : s.hblankStart.trace = s.trace ++ records .hblank s.raster.hblank true :=
  drive_hblank_trace true
@[simp] theorem hblankEnd_trace : s.hblankEnd.trace = s.trace ++ records .hblank s.raster.hblank false :=
  drive_hblank_trace false
@[simp] theorem hsyncStart_trace : s.hsyncStart.trace = s.trace ++ records .hsync s.raster.hsync true :=
  drive_hsync_trace true
@[simp] theorem hsyncEnd_trace : s.hsyncEnd.trace = s.trace ++ records .hsync s.raster.hsync false :=
  drive_hsync_trace false

theorem pcgWindow_trace (h : s.cfg.overlay = true) :
    s.pcgWindow.trace = s.trace ++ records .busreq s.raster.stall false := by
  rw [State.pcgWindow, if_pos h]
  exact releaseStall_trace h

/-! ## The five events and the two toggles -/

/-- An operation of a living core that moves the raster group and the trace only answers with the two and nothing else changed. -/
theorem whenLive_answer_of_rasterOnly (hl : s.life = .live) (h : RasterOnly s t) (x : Result) :
    s.whenLive (t.answer x) = .next { s with raster := t.raster, trace := t.trace, result := x } :=
  whenLive_answer_of_eq hl h x

/-- Settles O48, event by event. -/
theorem timedEventsSetTheirFlags : Obligations.TimedEventsSetTheirFlags := by
  intro s hl
  refine ⟨?hblankS, ?hblankE, ?hsyncS, ?hsyncE, fun ho => ?pcgwin⟩
  case hblankS =>
    rw [← hblankStart_raster, ← hblankStart_trace]
    exact whenLive_answer_of_rasterOnly hl rasterOnly_hblankStart .done
  case hblankE =>
    rw [← hblankEnd_raster, ← hblankEnd_trace]
    exact whenLive_answer_of_rasterOnly hl rasterOnly_hblankEnd .done
  case hsyncS =>
    rw [← hsyncStart_raster, ← hsyncStart_trace]
    exact whenLive_answer_of_rasterOnly hl rasterOnly_hsyncStart .done
  case hsyncE =>
    rw [← hsyncEnd_raster, ← hsyncEnd_trace]
    exact whenLive_answer_of_rasterOnly hl rasterOnly_hsyncEnd .done
  case pcgwin =>
    rw [← pcgWindow_raster ho, ← pcgWindow_trace ho]
    exact whenLive_answer_of_rasterOnly hl rasterOnly_pcgWindow .done

/-- Settles O49: the inverted level is a change, so each drive records it. -/
theorem tempoAndBlinkToggle : Obligations.TempoAndBlinkToggle := by
  intro s hl
  constructor
  · exact whenLive_answer_of_eq hl (drive_change (g := .tempo) (Bool.self_ne_not _) nofun) .done
  · exact whenLive_answer_of_eq hl (drive_change (g := .blink) (Bool.self_ne_not _) nofun) .done

/-! ## EV_NEWLINE -/

theorem lineFlags_trace : s.lineFlags.trace = s.trace ++ records .vblank s.raster.vblank (vblankAt s.raster.line)
    ++ records .vsync s.raster.vsync (vsyncAt s.cfg.timing s.raster.line)
    ++ records .hblank s.raster.hblank false ++ records .hsync s.raster.hsync false := by
  simp [State.lineFlags]

theorem closeWindow_trace :
    s.closeWindow.trace = s.trace ++ records .busreq s.raster.stall (s.raster.stall && !s.cfg.overlay) := by
  unfold State.closeWindow
  cases h : s.cfg.overlay with
  | false => simp
  | true => simp [releaseStall_trace (s := { s with raster.pcgSafe := false }) h]

theorem drawVisible_trace : s.drawVisible.trace = s.trace := by
  unfold State.drawVisible
  split <;> rfl

/-- EV_NEWLINE records the vertical flags, then the horizontal ones, then the release of the stall (41 R172). -/
theorem newline_trace : s.newline.trace = s.trace ++ records .vblank s.raster.vblank (vblankAt s.raster.line)
    ++ records .vsync s.raster.vsync (vsyncAt s.cfg.timing s.raster.line)
    ++ records .hblank s.raster.hblank false ++ records .hsync s.raster.hsync false
    ++ records .busreq s.raster.stall (s.raster.stall && !s.cfg.overlay) := by
  rw [newline_eq, drawVisible_trace, closeWindow_trace, lineFlags_trace, lineFlags_raster, lineFlags_cfg]

theorem newline_frame_video :
    s.newline = { s with raster := s.newline.raster, trace := s.newline.trace, video := s.newline.video } := by
  rw [newline_frame]

/-- Settles O47: the raster group, the trace and the drawn line of EV_NEWLINE, each by its lemma. -/
theorem newlineRecomputesTheFlags : Obligations.NewlineRecomputesTheFlags := by
  intro s hl
  have h : exec .evNewline s = .next
      { s with raster := s.newline.raster, trace := s.newline.trace, video := s.newline.video, result := .done } :=
    whenLive_answer_of_eq hl newline_frame_video .done
  rw [h, newline_raster, newline_trace, newline_video, tvTable_eq, vsyncAt_eq]
  rfl

/-! ## The records of one TICK -/

/-- The records of a rise and of a fall that do not both happen are the record of the change from first to last. -/
theorem records_rise_fall (g : Sig) {rise fall : Bool} (h : (rise && fall) = false) (x : Bool) :
    records g x (rise || x) ++ records g (rise || x) (!fall && (rise || x)) = records g x (!fall && (rise || x)) := by
  cases rise with
  | false => simp
  | true =>
    obtain rfl : fall = false := h
    simp

/-- A count is not at both ends of a window. -/
theorem not_both_ends {lo hi : Nat} (h : lo < hi) (n : Nat) : (n == lo && n == hi) = false := by
  simp only [Bool.and_eq_false_iff, beq_eq_false_iff_ne]
  omega

theorem at_hblankStart_trace (hit : Bool) : (s.at hit State.hblankStart).trace
    = s.trace ++ records .hblank s.raster.hblank (hit || s.raster.hblank) := by
  cases hit <;> simp [State.at]

theorem at_hblankEnd_trace (hit : Bool) : (s.at hit State.hblankEnd).trace
    = s.trace ++ records .hblank s.raster.hblank (!hit && s.raster.hblank) := by
  cases hit <;> simp [State.at]

theorem at_hsyncStart_trace (hit : Bool) : (s.at hit State.hsyncStart).trace
    = s.trace ++ records .hsync s.raster.hsync (hit || s.raster.hsync) := by
  cases hit <;> simp [State.at]

theorem at_hsyncEnd_trace (hit : Bool) : (s.at hit State.hsyncEnd).trace
    = s.trace ++ records .hsync s.raster.hsync (!hit && s.raster.hsync) := by
  cases hit <;> simp [State.at]

theorem hblankEvents_trace {rise fall : Bool} (h : (rise && fall) = false) :
    ((s.at rise State.hblankStart).at fall State.hblankEnd).trace
      = s.trace ++ records .hblank s.raster.hblank (!fall && (rise || s.raster.hblank)) := by
  rw [at_hblankEnd_trace, at_hblankStart_trace, at_hblankStart_raster, List.append_assoc, records_rise_fall _ h]

theorem hsyncEvents_trace {rise fall : Bool} (h : (rise && fall) = false) :
    ((s.at rise State.hsyncStart).at fall State.hsyncEnd).trace
      = s.trace ++ records .hsync s.raster.hsync (!fall && (rise || s.raster.hsync)) := by
  rw [at_hsyncEnd_trace, at_hsyncStart_trace, at_hsyncStart_raster, List.append_assoc, records_rise_fall _ h]

theorem at_pcgWindow_trace (hit : Bool) (h : hit = true → s.cfg.overlay = true) : (s.at hit State.pcgWindow).trace
    = s.trace ++ records .busreq s.raster.stall (s.raster.stall && !hit) := by
  cases hit with
  | false => simp [State.at]
  | true => simp [State.at, pcgWindow_trace (h rfl)]

/-- A TICK inside a line records the changes of HBLANK, HSYNC and BUSREQ, in this order (41 R173). -/
theorem tick_trace_inside (hc : s.cfg.TimingOk) (h : s.raster.hcnt + 1 ≠ s.cfg.timing.cpl) : s.tick.trace = s.trace
    ++ records .hblank s.raster.hblank s.tick.raster.hblank ++ records .hsync s.raster.hsync s.tick.raster.hsync
    ++ records .busreq s.raster.stall s.tick.raster.stall := by
  obtain ⟨-, -, -, -, -, -, hbs, -, -, hss, -, -⟩ := timing_ok hc
  rw [tick_raster_inside h, tick_of_inside h]
  simp only
  rw [at_pcgWindow_trace]
  · simp only [at_hsyncEnd_raster, at_hsyncStart_raster, at_hblankEnd_raster, at_hblankStart_raster,
      hsyncEvents_trace (not_both_ends hss _), hblankEvents_trace (not_both_ends hbs _)]
  · intro hit
    simp only [at_hsyncEnd_cfg, at_hsyncStart_cfg, at_hblankEnd_cfg, at_hblankStart_cfg]
    exact (Bool.and_eq_true_iff.1 hit).1

/-- A TICK at the end of a line records what EV_NEWLINE does (41 R172). -/
theorem tick_trace_wrap (h : s.raster.hcnt + 1 = s.cfg.timing.cpl) : s.tick.trace = s.trace
    ++ (records .vblank s.raster.vblank s.tick.raster.vblank ++ records .vsync s.raster.vsync s.tick.raster.vsync)
    ++ records .hblank s.raster.hblank s.tick.raster.hblank ++ records .hsync s.raster.hsync s.tick.raster.hsync
    ++ records .busreq s.raster.stall s.tick.raster.stall := by
  rw [tick_of_wrap h, newline_trace, newline_raster]
  simp only [List.append_assoc]

/-- Settles O46, at the end of a line and inside it. -/
theorem tickEmitsInOrder : Obligations.TickEmitsInOrder := by
  intro s t hg h
  obtain ⟨-, rfl⟩ := whenLive_next.1 h
  rw [tvTable_eq, State.answer_trace, State.answer_raster]
  split
  · next hwrap => exact tick_trace_wrap hwrap
  · next hin => rw [List.append_nil, tick_trace_inside hg.cfgOk.1 hin]

/-! ## Who moves the raster group (41 R185) -/

/-- The raster group is the same but for the stall. -/
def StallOnly (q q' : Raster) : Prop := q' = { q with stall := q'.stall }

theorem StallOnly.of_eq {q q' : Raster} (h : q' = q) : StallOnly q q' := by
  subst h
  rfl

theorem stallOnly_pcgStallCheck : StallOnly s.raster s.pcgStallCheck.raster := by
  unfold State.pcgStallCheck State.drive
  split_ifs <;> rfl

theorem winAccess_raster (acc : Access) (a : Addr) (n : Nat) : (s.winAccess acc a n).raster = s.raster := by
  cases acc with
  | read => rfl
  | write v => simp [winAccess_write]

theorem accBootflash_raster (acc : Access) (off : BitVec 12) : (s.accBootflash acc off).raster = s.raster := by
  cases acc <;> simp [State.accBootflash]

theorem accMmio_raster (acc : Access) (k : MmioClass) : (s.accMmio acc k).raster = s.raster := by rw [accMmio_frame]

/-- A memory access moves the stall only (41 R183). -/
theorem stallOnly_memAccess (acc : Access) (a : Addr) : StallOnly s.raster (s.memAccess acc a).raster :=
  memAccess_cases (P := fun t => StallOnly s.raster t.raster)
    (fun _ => by rw [State.accPcgwin, winAccess_raster]; exact stallOnly_pcgStallCheck)
    (fun k _ => .of_eq (accMmio_raster acc k))
    (fun _ _ => .of_eq (accBootflash_raster acc _))
    (fun b n => .of_eq (winAccess_raster acc b n))

/-- Every request answered by a living core but TICK, the toggles, RESET and a load moves the stall only. -/
theorem Effect.stallOnly (h : Effect s r t) (htick : r ≠ .tick) (htempo : r ≠ .tempo) (hblink : r ≠ .blink)
    (hreset : r ≠ .reset) (hload : ∀ p, r ≠ .snapLoad p) : StallOnly s.raster t.raster := by
  cases h with
  | memRead tc => exact stallOnly_memAccess .read _
  | memWrite tc => exact stallOnly_memAccess (.write _) _
  | portRead | snapSave | release | present => exact .of_eq rfl
  | portWrite | flashRd | flashWr => exact .of_eq (by simp)
  | tick => exact absurd rfl htick
  | tempo => exact absurd rfl htempo
  | blink => exact absurd rfl hblink
  | reset => exact absurd rfl hreset
  | snapLoad p | snapMismatch p => exact absurd rfl (hload p)

theorem Effect.tempo_raster (h : Effect s .tempo t) : t.raster = { s.raster with tempo := !s.raster.tempo } := by
  cases h
  exact drive_raster .tempo _ nofun

theorem Effect.blink_raster (h : Effect s .blink t) : t.raster = { s.raster with blink := !s.raster.blink } := by
  cases h
  exact drive_raster .blink _ nofun

/-- Settles O13: the toggles move their own flag, and every other request the stall only. -/
theorem rasterIsMovedByTicksOnly : Obligations.RasterIsMovedByTicksOnly := by
  intro s t r h htick hreset hload hinit
  obtain ⟨-, e⟩ | ⟨c, im, hr, -⟩ := effect_of_perform h
  · by_cases htempo : r = .tempo
    · subst htempo
      rw [e.tempo_raster]
      exact ⟨rfl, fun hne => absurd rfl hne, fun _ => rfl⟩
    by_cases hblink : r = .blink
    · subst hblink
      rw [e.blink_raster]
      exact ⟨rfl, fun _ => rfl, fun hne => absurd rfl hne⟩
    have hstall : t.raster = { s.raster with stall := t.raster.stall } := e.stallOnly htick htempo hblink hreset hload
    rw [hstall]
    exact ⟨rfl, fun _ => rfl, fun _ => rfl⟩
  · exact absurd hr (hinit c im)

/-! ## The wait counts (41 R184) -/

/-- The access answers with the wait count `n`, a read with some byte beside it. -/
def AnswersWait (acc : Access) (n : Nat) (t : State) : Prop :=
  match acc with
  | .read => ∃ b, t.result = .memRead b n
  | .write _ => t.result = .memWrite n

theorem answersWait_winAccess (acc : Access) (a : Addr) (n : Nat) : AnswersWait acc n (s.winAccess acc a n) := by
  cases acc with
  | read => exact ⟨_, rfl⟩
  | write v => exact rfl

theorem answersWait_accMmio (acc : Access) (k : MmioClass) : AnswersWait acc 0 (s.accMmio acc k) := by
  cases acc with
  | read => cases k <;> exact ⟨_, rfl⟩
  | write v => cases k <;> exact rfl

theorem answersWait_accBootflash (acc : Access) (off : BitVec 12) : AnswersWait acc 0 (s.accBootflash acc off) := by
  cases acc with
  | read => exact ⟨_, rfl⟩
  | write v => exact rfl

theorem memAccess_of_intercepted {k : MmioClass} (h : intercepted s.cfg s.latch a = some k) (acc : Access) :
    s.memAccess acc a = s.accMmio acc k := by
  rw [State.memAccess, inPcgWin_of_intercepted h, h]
  rfl

/-- With `MON_L` = 1 an access in the low window over the flash goes to the flash (40 R127). -/
theorem memAccess_of_takenByFlash (hc : s.cfg.Ok) (hi : takenByIntercept s a = false) (hf : takenByFlash s a = true)
    (acc : Access) : s.memAccess acc a = s.accBootflash acc (low12 a) := by
  simp only [takenByFlash, Bool.and_eq_true, decide_eq_true_eq] at hf
  obtain ⟨⟨hmon, hflash⟩, hlow⟩ := hf
  have hnone : intercepted s.cfg s.latch a = none := by
    rw [← Option.not_isSome_iff_eq_none, isSome_intercepted hc, hi]
    exact Bool.false_ne_true
  rw [State.memAccess, inPcgWin_of_low _ _ (by omega), hnone, inBoot_of_monL_on hmon hlow, hflash]
  rfl

theorem expectedWait_of_taken (h : takenByIntercept s a = true ∨ takenByFlash s a = true) : expectedWait s a = 0 := by
  unfold expectedWait
  obtain h | h := h <;> simp [h]

/-- Every memory access answers with the wait count of the table. -/
theorem answersWait_memAccess (hc : s.cfg.Ok) (acc : Access) (a : Addr) :
    AnswersWait acc (expectedWait s a) (s.memAccess acc a) := by
  cases hi : takenByIntercept s a with
  | true =>
    obtain ⟨k, hk⟩ := Option.isSome_iff_exists.1 ((isSome_intercepted hc a).trans hi)
    rw [expectedWait_of_taken (.inl hi), memAccess_of_intercepted hk]
    exact answersWait_accMmio acc k
  | false =>
    cases hf : takenByFlash s a with
    | true =>
      rw [expectedWait_of_taken (.inr hf), memAccess_of_takenByFlash hc hi hf]
      exact answersWait_accBootflash acc _
    | false =>
      rw [memAccess_of_mapped hc hi hf]
      exact answersWait_winAccess acc a _

/-- Settles O21: an intercept or the flash takes the access, or the Bank Map does. -/
theorem waitCountsFollowTheTable : Obligations.WaitCountsFollowTheTable := by
  intro s a v hl hc
  obtain ⟨b, hread⟩ := answersWait_memAccess hc .read a
  exact ⟨⟨_, b, exec_memrd hl, hread⟩, _, exec_memwr hl, answersWait_memAccess hc (.write v) a⟩

/-! ## The open PCG windows (41 R183) -/

/-- MEM.PCGWIN at an address of an open PCG window is the memory access there. -/
theorem exec_memPcgwin_of_open (hl : s.life = .live) (h : inOpenPcg s a = true) (acc : Access) :
    exec (.memPcgwin acc a) s = .next (s.memAccess acc a) := by
  rw [State.memAccess, inPcgWin_eq_inOpenPcg, if_pos h]
  exact whenLive_of_live hl

/-- Neither an intercept nor the flash takes an access to an open PCG window, and it costs nothing. -/
theorem mapped_of_inOpenPcg (h : inOpenPcg s a = true) :
    takenByIntercept s a = false ∧ takenByFlash s a = false ∧ expectedWait s a = 0 := by
  have hwait : expectedWait s a = 0 := by rw [expectedWait, if_pos h]
  simp only [inOpenPcg, Bool.and_eq_true, decide_eq_true_eq] at h
  obtain ⟨hopen, hlo, -⟩ := h
  refine ⟨by simp [takenByIntercept, hopen], ?_, hwait⟩
  simp only [takenByFlash, Bool.and_eq_false_iff, decide_eq_false_iff_not]
  omega

/-- The record of a stall check: one where the stall is raised. -/
theorem records_stall (stall safe : Bool) : records .busreq stall (stall || !safe)
    = if safe = false ∧ stall = false then [(.busreq, true)] else [] := by
  cases stall <;> cases safe <;> rfl

/-- Settles O24: the access is MEMRD or MEMWR at its address, which the Bank Map takes. -/
theorem pcgWindowAccessMayStall : Obligations.PcgWindowAccessMayStall := by
  intro s a v hl hg ho hen hlo hhi
  have hopen : inOpenPcg s a = true := by simp [inOpenPcg, overlayOpen, ho, hen, hlo, hhi]
  obtain ⟨hi, hf, hwait⟩ := mapped_of_inOpenPcg hopen
  have hread := memrdReturnsTheMappedByte s a hl hg.cfgOk hi hf
  have hwrite := memwrStoresThroughTheMap s a v hl hg hi hf
  rw [exec_memrd hl] at hread
  rw [exec_memwr hl] at hwrite
  simp only [hopen, hwait, Bool.true_and, records_stall] at hread hwrite
  rw [exec_memPcgwin_of_open hl hopen, exec_memPcgwin_of_open hl hopen]
  exact ⟨hread, hwrite⟩

/-! ## The VRAM and the boot ROM (41 R180, R181) -/

/-- The VRAM wait in terms of the count: `BLANK_VRAM` is up from blank-start on (41 R186). -/
theorem vramWait_of_rasterOk {c : Config} {q : Raster} (h : RasterOk c q) : vramWait c q
    = if q.hcnt < (tvTable c).tHbs then ((tvTable c).tHbs - q.hcnt) + c.vramWaitTail else 0 := by
  obtain ⟨-, -, -, -, hblank, -⟩ := h
  rw [vramWait, hblank, blankVramAt, tvTable_eq]
  by_cases hlt : q.hcnt < c.timing.tHbs
  · simp [hlt]
  · simp [hlt, Nat.not_lt.1 hlt]

/-- A window write in a good state stores its byte at the window's target, and its answer is its one other change. -/
theorem stores_winAccess_write (hg : s.Good) (a : Addr) (v : Byte) (n : Nat) :
    Stores s (s.winAccess (.write v) a n) (s.winTarget a) v := by
  intro b k
  rw [winTarget_eq_mapSink, winAccess_write, peek_congr (State.answer_cfg _ _) (State.answer_mems _ _)]
  exact stores_winWrite hg a v b k

/-- Settles O25: the window is the VRAM at the access's offset. -/
theorem vramAccessCostsTheVramWait : Obligations.VramAccessCostsTheVramWait := by
  intro s off v hl hg hmon hopen
  have hoff := off.isLt
  obtain ⟨hread, htarget⟩ := highWindow_vram hopen hmon (a := vramAddr off) (by simp) (by rw [vramAddr_toNat]; omega)
  rw [vramAddr_toNat, Nat.add_sub_cancel_left] at hread htarget
  simp only [← vramWait_of_rasterOk hg.rasterOk]
  refine ⟨?_, _, whenLive_of_live hl, ?_, winAccess_write_frame _⟩
  · rw [← hread]
    exact whenLive_of_live hl
  · rw [← htarget]
    exact stores_winAccess_write hg _ v _

/-- Settles O26: the window shows the boot ROM and has no target. -/
theorem bootRomAccessCostsOne : Obligations.BootRomAccessCostsOne := by
  intro s off v hl hmon hf
  have hoff := off.isLt
  obtain ⟨hread, htarget⟩ := lowWindow_rom hmon hf (a := bootAddr off) (by rw [bootAddr_toNat]; omega)
  have hdrop : s.winWrite (bootAddr off) v = s := by rw [winWrite_eq, htarget]
  rw [bootAddr_toNat] at hread
  constructor
  · rw [← hread]
    exact whenLive_of_live hl
  · exact whenLive_answer_unchanged hl hdrop (.memWrite 1)

end Sys2Proof.Machine
end

section
/-! SUPPORT. The statements of 42_flash_protocol: who touches the flash, the status byte and the three kinds of read, a write as
a row of the transition table, the storing commands byte by byte, and the sequences of requests that program a byte and end the
busy state. -/

namespace Sys2Proof.Machine

open Sys2Proof.Claims

variable {s t u : State} {r : Request} {c : Config} {a : Addr} {fa : Nat} {v w : Byte} {k : Cycle}

/-! ## Who touches the flash (42 R210) -/

/-- The flash scalars, `MODIFIED` and the flash store are the same. -/
structure SameFlash (s t : State) : Prop where
  flash : t.flash = s.flash
  modified : t.modified = s.modified
  fstore : t.mems.fstore = s.mems.fstore

theorem SameFlash.answer (h : SameFlash s t) (x : Result) : SameFlash s (t.answer x) := ⟨h.flash, h.modified, h.fstore⟩

/-- The Bank Map does not give the flash store as a sink (20 R70). -/
theorem sameFlash_winWrite (a : Addr) (v : Byte) : SameFlash s (s.winWrite a v) := by
  rw [winWrite_eq]
  split
  · exact ⟨rfl, rfl, rfl⟩
  · next b off ht => obtain rfl | rfl | rfl := winTarget_writable ht <;> exact ⟨rfl, rfl, rfl⟩

theorem sameFlash_winAccess (acc : Access) (a : Addr) (n : Nat) : SameFlash s (s.winAccess acc a n) := by
  cases acc with
  | read => exact ⟨rfl, rfl, rfl⟩
  | write v => exact (sameFlash_winWrite a v).answer _

theorem sameFlash_accPcgwin (acc : Access) (a : Addr) : SameFlash s (s.accPcgwin acc a) := by
  obtain ⟨hflash, hmod, hstore⟩ := sameFlash_winAccess (s := s.pcgStallCheck) acc a 0
  exact ⟨by simp [State.accPcgwin, hflash], by simp [State.accPcgwin, hmod], by simp [State.accPcgwin, hstore]⟩

theorem sameFlash_accMmio (acc : Access) (k : MmioClass) : SameFlash s (s.accMmio acc k) := by
  rw [accMmio_frame]
  exact ⟨rfl, rfl, rfl⟩

/-- A memory access outside the boot window does not reach the flash. -/
theorem sameFlash_memAccess (hboot : inBoot s.latch a = false) (acc : Access) : SameFlash s (s.memAccess acc a) :=
  memAccess_cases
    (fun _ => sameFlash_accPcgwin acc a)
    (fun k _ => sameFlash_accMmio acc k)
    (fun h _ => absurd (h.symm.trans hboot) (by decide))
    (fun b n => sameFlash_winAccess acc b n)

theorem sameFlash_portWrite (p : Port) (v : Byte) : SameFlash s (s.portWrite p v) := by
  rw [portWrite_frame]
  exact ⟨rfl, rfl, rfl⟩

theorem sameFlash_tick : SameFlash s s.tick := by
  rw [tick_frame]
  exact ⟨rfl, rfl, rfl⟩

theorem sameFlash_drive (g : Sig) (x : Bool) : SameFlash s (s.drive g x) := by
  rw [drive_frame]
  exact ⟨rfl, rfl, rfl⟩

theorem inBoot_eq_false (h : ¬(s.latch.monL = true ∧ a.toNat < 0x1000)) : inBoot s.latch a = false := by
  simpa [inBoot] using h

/-- Every request answered by a living core but a memory access in the boot window, a flash operation, RESET and a load leaves
the flash alone. -/
theorem Effect.sameFlash (h : Effect s r t)
    (hlow : ∀ tc, r = .bus tc → (tcKind tc).toNat ≤ 1 → ¬(s.latch.monL = true ∧ (tcAddr tc).toNat < 0x1000))
    (hrd : ∀ fa, r ≠ .flashRd fa) (hwr : ∀ fa v, r ≠ .flashWr fa v) (hreset : r ≠ .reset) (hload : ∀ p, r ≠ .snapLoad p) :
    SameFlash s t := by
  cases h with
  | memRead tc hk => exact sameFlash_memAccess (inBoot_eq_false (hlow tc rfl (by omega))) .read
  | memWrite tc hk => exact sameFlash_memAccess (inBoot_eq_false (hlow tc rfl (by omega))) (.write _)
  | portRead | snapSave | release | present => exact ⟨rfl, rfl, rfl⟩
  | portWrite tc => exact (sameFlash_portWrite _ _).answer _
  | flashRd fa => exact absurd rfl (hrd fa)
  | flashWr fa v => exact absurd rfl (hwr fa v)
  | tick => exact sameFlash_tick.answer _
  | tempo | blink => exact (sameFlash_drive _ _).answer _
  | reset => exact absurd rfl hreset
  | snapLoad p | snapMismatch p => exact absurd rfl (hload p)

/-- Settles O14, by the kinds of request. -/
theorem flashIsTouchedByItsOwnersOnly : Obligations.FlashIsTouchedByItsOwnersOnly := by
  intro s t r h hlow hrd hwr hreset hload hinit
  obtain ⟨-, e⟩ | ⟨c, im, hr, -⟩ := effect_of_perform h
  · obtain ⟨hflash, hmod, hstore⟩ := e.sameFlash hlow hrd hwr hreset hload
    exact ⟨hflash, hmod, hstore⟩
  · exact absurd hr (hinit c im)

/-! ## The status byte (42 R213) -/

theorem statusByte_toggle (b : Byte) (n : Nat) : (statusByte b n).getLsbD 7 = !b.getLsbD 7 := by
  obtain h | h := Nat.mod_two_eq_zero_or_one n <;> simp [statusByte, h]

theorem statusByte_parity (b : Byte) (n : Nat) : (statusByte b n).getLsbD 6 = decide (n % 2 = 1) := by
  obtain h | h := Nat.mod_two_eq_zero_or_one n <;> simp [statusByte, h]

theorem statusByte_low (b : Byte) (n : Nat) {i : Nat} (hi : i < 6) : (statusByte b n).getLsbD i = b.getLsbD i := by
  have hconst : ∀ i < 6, (0x80#8).getLsbD i = false ∧ (0xBF#8).getLsbD i = true := by decide
  obtain ⟨htoggle, hmask⟩ := hconst i hi
  simp [statusByte, htoggle, hmask, hi]

/-- The byte under a program or an erase is never read back while busy: bit 7 is inverted. -/
theorem statusByte_ne (b : Byte) (n : Nat) : statusByte b n ≠ b := by
  intro h
  have h7 := statusByte_toggle b n
  rw [h] at h7
  exact Bool.not_ne_self _ h7.symm

/-! ## Reads (42 R212 to R215) -/

theorem flashRead_of_busy (h : 0 < s.flash.busy) (fa : Nat) : s.flashRead fa = s.flashStatus fa := if_pos h

theorem flashRead_of_id (hb : s.flash.busy = 0) (hid : s.flash.idMode = true) (hfa : fa ≤ 1) :
    s.flashRead fa = (s, flashIdByte s.cfg fa) := by
  have hcell : fa = 0 ∨ fa = 1 := by omega
  simp [State.flashRead, hb, hid, hcell]

theorem flashRead_of_array (hb : s.flash.busy = 0) (h : s.flash.idMode = false ∨ 1 < fa) :
    s.flashRead fa = (s, s.peek .fstore fa) := by
  have hcell : ¬(s.flash.idMode = true ∧ (fa = 0 ∨ fa = 1)) := by
    rintro ⟨hid, hfa⟩
    obtain h | h := h
    · exact absurd (hid.symm.trans h) (by decide)
    · omega
  simp [State.flashRead, hb, hcell]

theorem exec_frd (hl : s.life = .live) (hf : s.cfg.hasFlash = true) (fa : Nat) :
    exec (.frd fa) s = .next ((s.flashRead fa).1.answer (.byte (s.flashRead fa).2)) := whenFlash_of_flash hl hf
theorem exec_frdStatus (hl : s.life = .live) (hf : s.cfg.hasFlash = true) (fa : Nat) :
    exec (.frdStatus fa) s = .next ((s.flashStatus fa).1.answer (.byte (s.flashStatus fa).2)) := whenFlash_of_flash hl hf
theorem exec_frdId (hl : s.life = .live) (hf : s.cfg.hasFlash = true) (fa : Nat) :
    exec (.frdId fa) s = .next (s.answer (.byte (flashIdByte s.cfg fa))) := whenFlash_of_flash hl hf
theorem exec_frdArray (hl : s.life = .live) (hf : s.cfg.hasFlash = true) (fa : Nat) :
    exec (.frdArray fa) s = .next (s.answer (.byte (s.peek .fstore fa))) := whenFlash_of_flash hl hf

/-- Settles O36. -/
theorem arrayReadReturnsTheStoredByte : Obligations.ArrayReadReturnsTheStoredByte :=
  fun _ fa hl hf => exec_frdArray hl hf fa

/-- Settles O35, bit by bit of the status byte. -/
theorem statusReadTogglesAndCountsDown : Obligations.StatusReadTogglesAndCountsDown :=
  fun s fa hl hf _ =>
    ⟨statusByte (s.peek .fstore fa) (s.flash.busy - 1), exec_frdStatus hl hf fa, statusByte_toggle _ _, statusByte_parity _ _,
      fun _ hi => statusByte_low _ _ hi⟩

/-- Settles O37: each kind of read is the read of its condition. -/
theorem flashReadDispatch : Obligations.FlashReadDispatch := by
  intro s fa hl hf
  refine ⟨⟨_, exec_frd hl hf fa, ?_⟩, fun hb => ?_, fun hb hid hfa => ?_, fun hb h => ?_, exec_frdId hl hf 0,
    exec_frdId hl hf 1⟩
  · rw [flashRead_state]
    rfl
  · rw [exec_frd hl hf, exec_frdStatus hl hf, flashRead_of_busy hb]
  · rw [exec_frd hl hf, exec_frdId hl hf, flashRead_of_id hb hid hfa]
  · rw [exec_frd hl hf, exec_frdArray hl hf, flashRead_of_array hb h]

/-! ## What the storing commands store (42 R227, R230, R231) -/

/-- What a row of the table does to the memories, and nothing of the flash scalars. -/
def State.fillStore (s : State) (fa : Nat) (v : Byte) : Fill → State
  | .nothing => s
  | .byte => s.poke .fstore fa v
  | .sector => s.flashFill (sectorOf fa * flashSector) flashSector
  | .chip => s.flashFill 0 s.cfg.flashSize

theorem fillStore_frame (f : Fill) : s.fillStore fa v f = { s with mems := (s.fillStore fa v f).mems } := by
  cases f <;> rfl

/-- Every byte of every buffer afterwards: the store's by the table, all others as they were. -/
theorem peek_fillStore (hg : s.Good) (fa : Nat) (v : Byte) (f : Fill) (b : Buffer) (k : Nat) : (s.fillStore fa v f).peek b k
    = if b = .fstore then f.byteAt s.cfg fa v k (s.peek b k) else s.peek b k := by
  cases f with
  | nothing => exact (ite_self _).symm
  | byte =>
    obtain ⟨⟨hsorted, -⟩, -⟩ := hg.bufferOk .fstore
    simp only [State.fillStore, peek_poke hsorted, Fill.byteAt, ite_and]
  | sector =>
    have hsector : sectorOf fa * flashSector ≤ k ∧ k < sectorOf fa * flashSector + flashSector ↔ k / 4096 = fa / 4096 := by
      unfold sectorOf flashSector
      omega
    simp only [State.fillStore, peek_flashFill, Fill.byteAt, ite_and, hsector, fillRom]
  | chip =>
    simp only [State.fillStore, peek_flashFill, Fill.byteAt, ite_and, Nat.zero_le, if_true, Nat.zero_add, fillRom]

/-- One byte programmed, every other kept. -/
theorem stores_flashProgram (hg : s.Good) (fa : Nat) (v : Byte) : Stores s (s.flashProgram fa v) (some (.fstore, fa)) v := by
  intro b k
  obtain ⟨⟨hsorted, -⟩, -⟩ := hg.bufferOk .fstore
  rw [State.flashProgram, peek_congr (State.flashCommit_cfg _ _) (State.flashCommit_mems _ _), peek_poke hsorted]
  simp only [Option.some.injEq, Prod.mk.injEq, eq_comm]

theorem peek_flashChipErase (hg : s.Good) (b : Buffer) (k : Nat) :
    s.flashChipErase.peek b k = if b = .fstore ∧ k < s.cfg.flashSize then 0xFF else s.peek b k := by
  have h : s.flashChipErase.peek b k = (s.fillStore 0 0 .chip).peek b k := peek_congr rfl rfl b k
  rw [h, peek_fillStore hg, ite_and]
  rfl

theorem peek_flashSectorErase (hg : s.Good) (fa : Nat) (b : Buffer) (k : Nat) :
    (s.flashSectorErase fa).peek b k = if b = .fstore ∧ k / 4096 = fa / 4096 then 0xFF else s.peek b k := by
  have h : (s.flashSectorErase fa).peek b k = (s.fillStore fa 0 .sector).peek b k := peek_congr rfl rfl b k
  rw [h, peek_fillStore hg, ite_and]
  rfl

/-- Settles O42, command by command. -/
theorem storingCommands : Obligations.StoringCommands := by
  intro s fa v hl hg hf _
  refine ⟨⟨_, whenFlash_of_flash hl hf, rfl, stores_flashProgram hg fa v⟩, ⟨_, whenFlash_of_flash hl hf, rfl, ?_⟩,
    _, whenFlash_of_flash hl hf, rfl, ?_⟩
  · exact peek_flashChipErase hg
  · exact peek_flashSectorErase hg fa

/-! ## Writes (42 R216, R233) -/

/-- A command code matches on the low 15 address bits and the data byte (42 R218). -/
theorem comparisonCode_append (hc : c.Ok) (hf : c.hasFlash = true) (fa : Nat) (v : Byte) (x : BitVec 15) (w : Byte) :
    comparisonCode c fa v = x ++ w ↔ fa % 0x8000 = x.toNat ∧ v = w := by
  have hw := w.isLt
  have hx : (x ++ w : BitVec 23).toNat = x.toNat * 2 ^ 8 + w.toNat := by
    rw [BitVec.toNat_append, ← Nat.shiftLeft_add_eq_or_of_lt hw, Nat.shiftLeft_eq]
  rw [comparisonCode_eq (flashCmdAddrMask_eq hc hf), hx, ← BitVec.toNat_inj]
  omega

/-- The state a row of the table of 42 R233 leaves. -/
def State.applyRow (s : State) (fa : Nat) (v : Byte) (row : Cycle × Option Bool × Fill) : State :=
  { s.fillStore fa v row.2.2 with
    flash := { cycle := row.1, busy := row.2.2.busy, idMode := row.2.1.getD s.flash.idMode }
    modified := s.modified || decide (row.2.2 ≠ .nothing) }

theorem applyRow_setCycle (hb : s.flash.busy = 0) (k : Cycle) : s.applyRow fa v (k, none, .nothing) = s.setCycle k := by
  simp [State.applyRow, State.fillStore, Fill.busy, State.setCycle, hb]

theorem applyRow_setIdMode (hb : s.flash.busy = 0) (x : Bool) :
    s.applyRow fa v (.idle, some x, .nothing) = s.setIdMode x := by
  simp [State.applyRow, State.fillStore, Fill.busy, State.setIdMode, hb]

theorem applyRow_leaveIdMode (hb : s.flash.busy = 0) (hk : s.flash.cycle = .idle) :
    s.applyRow fa v (.idle, some false, .nothing) = s.leaveIdMode := by
  simp [State.applyRow, State.fillStore, Fill.busy, State.leaveIdMode, hb, hk]

theorem applyRow_byte : s.applyRow fa v (.idle, none, .byte) = s.flashProgram fa v := by
  simp [State.applyRow, State.fillStore, Fill.busy, State.flashProgram, State.flashCommit, busyProgram]

theorem applyRow_sector : s.applyRow fa v (.idle, none, .sector) = s.flashSectorErase fa := by
  simp [State.applyRow, State.fillStore, Fill.busy, State.flashSectorErase, State.flashCommit, busySector]

theorem applyRow_chip : s.applyRow fa v (.idle, none, .chip) = s.flashChipErase := by
  simp [State.applyRow, State.fillStore, Fill.busy, State.flashChipErase, State.flashCommit, busyChip]

theorem flashWrite_of_busy (h : 0 < s.flash.busy) (fa : Nat) (v : Byte) : s.flashWrite fa v = s := if_pos h

/-- A write to an idle flash is a row of the transition table (42 R233). -/
theorem flashWrite_of_idle (hc : s.cfg.Ok) (hf : s.cfg.hasFlash = true) (hb : s.flash.busy = 0) (fa : Nat) (v : Byte) :
    s.flashWrite fa v = s.applyRow fa v (flashRow s.cfg s.flash.cycle (fa % 0x8000) v) := by
  have code := comparisonCode_append hc hf fa v
  have unlock1 : comparisonCode s.cfg fa v = fcUnlock1 ↔ fa % 0x8000 = 0x5555 ∧ v = 0xAA := code 0x5555 0xAA
  have unlock2 : comparisonCode s.cfg fa v = fcUnlock2 ↔ fa % 0x8000 = 0x2AAA ∧ v = 0x55 := code 0x2AAA 0x55
  have program : comparisonCode s.cfg fa v = fcProgram ↔ fa % 0x8000 = 0x5555 ∧ v = 0xA0 := code 0x5555 0xA0
  have erase : comparisonCode s.cfg fa v = fcErase ↔ fa % 0x8000 = 0x5555 ∧ v = 0x80 := code 0x5555 0x80
  have chip : comparisonCode s.cfg fa v = fcChip ↔ fa % 0x8000 = 0x5555 ∧ v = 0x10 := code 0x5555 0x10
  have entry : comparisonCode s.cfg fa v = fcIdEntry s.cfg ↔ fa % 0x8000 = 0x5555 ∧ v = s.cfg.flashCmdIdEntry := code 0x5555 _
  have exit : comparisonCode s.cfg fa v = fcIdExit s.cfg ↔ fa % 0x8000 = 0x5555 ∧ v = s.cfg.flashCmdIdExit := code 0x5555 _
  rw [State.flashWrite, if_neg (by omega)]
  cases hk : s.flash.cycle with
  | idle =>
    simp only [flashRow, apply_ite (s.applyRow fa v), applyRow_setCycle hb, applyRow_leaveIdMode hb hk]
    exact if_congr unlock1 rfl rfl
  | unlock1 =>
    simp only [flashRow, apply_ite (s.applyRow fa v), applyRow_setCycle hb]
    exact if_congr unlock2 rfl rfl
  | unlock2 =>
    simp only [flashRow, apply_ite (s.applyRow fa v), applyRow_setCycle hb, applyRow_setIdMode hb, program, erase, entry, exit]
    by_cases haddr : fa % 0x8000 = 0x5555
    · simp only [haddr, true_and, if_true]
      rfl
    · simp only [haddr, false_and, if_false]
      rfl
  | programSel => exact applyRow_byte.symm
  | eraseSel =>
    simp only [flashRow, apply_ite (s.applyRow fa v), applyRow_setCycle hb]
    exact if_congr unlock1 rfl rfl
  | eraseUnlock1 =>
    simp only [flashRow, apply_ite (s.applyRow fa v), applyRow_setCycle hb]
    exact if_congr unlock2 rfl rfl
  | eraseUnlock2 =>
    simp only [flashRow, apply_ite (s.applyRow fa v), applyRow_setCycle hb, applyRow_chip, applyRow_sector]
    exact if_congr chip rfl rfl

theorem exec_fwr (hl : s.life = .live) (hf : s.cfg.hasFlash = true) (fa : Nat) (v : Byte) :
    exec (.fwr fa v) s = .next ((s.flashWrite fa v).answer .done) := whenFlash_of_flash hl hf

/-- Settles O39. -/
theorem busyWritesAreIgnored : Obligations.BusyWritesAreIgnored := by
  intro s fa v hl hf
  refine ⟨whenFlash_of_flash hl hf, fun hb => ?_⟩
  rw [exec_fwr hl hf, flashWrite_of_busy hb, State.answer]

/-- Settles O41: the four bare operations, each the one writer of its effect. -/
theorem identificationAndMismatchWrites : Obligations.IdentificationAndMismatchWrites :=
  fun _ _ _ hl hf =>
    ⟨whenFlash_of_flash hl hf, whenFlash_of_flash hl hf, whenFlash_of_flash hl hf, whenFlash_of_flash hl hf⟩

/-- Settles O38: the write is the row of its cycle state, and a row writes what the table says. -/
theorem flashWriteFollowsTheTable : Obligations.FlashWriteFollowsTheTable := by
  intro s fa v hl hg hf hb row
  refine ⟨_, exec_fwr hl hf fa v, ?_⟩
  rw [flashWrite_of_idle hg.cfgOk hf hb]
  refine ⟨rfl, rfl, peek_fillStore hg fa v row.2.2, ?_⟩
  rw [State.applyRow, fillStore_frame]
  rfl

/-- A write whose row moves the cycle state and nothing else. -/
theorem flashWrite_of_move (hc : s.cfg.Ok) (hf : s.cfg.hasFlash = true) (hb : s.flash.busy = 0)
    (hrow : flashRow s.cfg s.flash.cycle (fa % 0x8000) v = (k, none, .nothing)) : s.flashWrite fa v = s.setCycle k := by
  rw [flashWrite_of_idle hc hf hb, hrow, applyRow_setCycle hb]

/-- FWR with the comparison code of a step of a command sequence, its 15 address bits and its data byte as one number (42 R218). -/
theorem exec_fwr_of_code {k' : Cycle} {x : Nat} (hl : s.life = .live) (hc : s.cfg.Ok) (hf : s.cfg.hasFlash = true)
    (hrow : flashRow s.cfg k x w = (k', none, .nothing)) (hb : s.flash.busy = 0) (hk : s.flash.cycle = k)
    (hcode : (fa % 0x8000) * 256 + v.toNat = x * 256 + w.toNat) :
    exec (.fwr fa v) s = .next { s with flash := { s.flash with cycle := k' }, result := .done } := by
  have hv := v.isLt
  have hw := w.isLt
  obtain ⟨haddr, hbyte⟩ : fa % 0x8000 = x ∧ v.toNat = w.toNat := by omega
  rw [exec_fwr hl hf, flashWrite_of_move hc hf hb (k := k') (by rw [hk, haddr, BitVec.eq_of_toNat_eq hbyte, hrow])]
  rfl

/-- Settles O40, step by step: the bare operation, and the write that is its row of the table. -/
theorem unlockStepsMoveTheCycle : Obligations.UnlockStepsMoveTheCycle := by
  intro s fa v hl hc hf moved rule
  have step : ∀ {i k k'} (x : Nat) (w : Byte), exec i s = .next (moved k') → flashRow s.cfg k x w = (k', none, .nothing) →
      rule i k (x * 256 + w.toNat) k' := fun _ _ hi hrow => ⟨hi, exec_fwr_of_code hl hc hf hrow⟩
  refine ⟨step 0x5555 0xAA ?_ rfl, step 0x2AAA 0x55 ?_ rfl, step 0x5555 0xA0 ?_ rfl, step 0x5555 0x80 ?_ rfl,
    step 0x5555 0xAA ?_ rfl, step 0x2AAA 0x55 ?_ rfl⟩
  all_goals exact whenFlash_of_flash hl hf

/-! ## Sequences of requests -/

theorem performAll_cons (h : perform r s = .next u) (rs : List Request) : performAll (r :: rs) s = performAll rs u := by
  simp only [performAll, h]

/-- A flash read of a living core counts down and changes nothing else but its answer. -/
theorem perform_flashRd_counts (hl : s.life = .live) (hf : s.cfg.hasFlash = true) (fa : Nat) : ∃ x,
    perform (.flashRd fa) s = .next { s with flash := { s.flash with busy := s.flash.busy - 1 }, result := x } := by
  refine ⟨.byte (s.flashRead (maskFa s.cfg fa)).2, ?_⟩
  rw [perform_flashRd fa hf, whenFlash_of_flash hl hf, flashRead_state, State.answer]

/-- Settles O43, by induction on the addresses read. -/
theorem busyEndsAfterThatManyReads : Obligations.BusyEndsAfterThatManyReads := by
  intro fas
  induction fas with
  | nil =>
    intro s _ _ hlen
    have hidle : 0 = s.flash.busy := hlen
    exact ⟨s, rfl, by rw [hidle]⟩
  | cons fa fas ih =>
    intro s hl hf hlen
    obtain ⟨x, hread⟩ := perform_flashRd_counts hl hf fa
    have hrest : fas.length = s.flash.busy - 1 := by
      rw [← hlen]
      rfl
    rw [List.map_cons, performAll_cons hread]
    exact ih _ hl hf hrest

/-- A flash write of a step of a command sequence moves the cycle state. -/
theorem perform_flashWr_of_move (hl : s.life = .live) (hc : s.cfg.Ok) (hf : s.cfg.hasFlash = true) (hb : s.flash.busy = 0)
    (hfa : fa < 0x8000) (hrow : flashRow s.cfg s.flash.cycle fa v = (k, none, .nothing)) :
    perform (.flashWr fa v) s = .next ((s.setCycle k).answer .done) := by
  rw [perform_flashWr fa hf, whenFlash_of_flash hl hf, maskFa_of_lt (lt_flashSize hc hf hfa),
    flashWrite_of_move hc hf hb (by rw [Nat.mod_eq_of_lt hfa, hrow])]

/-- The state that the first three writes of the byte-program sequence leave (42 R219, R221, R223). -/
def State.programSetup (s : State) : State := (s.setCycle .programSel).answer .done

/-- The state that the whole byte-program sequence leaves (42 R227). -/
def State.programmed (s : State) (fa : Nat) (v : Byte) : State := (s.programSetup.flashProgram fa v).answer .done

theorem performAll_programSetup (hl : s.life = .live) (hc : s.cfg.Ok) (hf : s.cfg.hasFlash = true) (hb : s.flash.busy = 0)
    (hk : s.flash.cycle = .idle) (rs : List Request) :
    performAll (.flashWr 0x5555 0xAA :: .flashWr 0x2AAA 0x55 :: .flashWr 0x5555 0xA0 :: rs) s
      = performAll rs s.programSetup := by
  have h1 : perform (.flashWr 0x5555 0xAA) s = .next ((s.setCycle .unlock1).answer .done) :=
    perform_flashWr_of_move hl hc hf hb (by decide) (by rw [hk]; rfl)
  have h2 : perform (.flashWr 0x2AAA 0x55) ((s.setCycle .unlock1).answer .done) = .next ((s.setCycle .unlock2).answer .done) :=
    perform_flashWr_of_move hl hc hf hb (by decide) rfl
  have h3 : perform (.flashWr 0x5555 0xA0) ((s.setCycle .unlock2).answer .done) = .next s.programSetup :=
    perform_flashWr_of_move hl hc hf hb (by decide) rfl
  rw [performAll_cons h1, performAll_cons h2, performAll_cons h3]

/-- After the program setup a write stores its byte, whatever the byte is. -/
theorem perform_flashWr_of_programSel (hl : s.life = .live) (hf : s.cfg.hasFlash = true) (hb : s.flash.busy = 0)
    (hk : s.flash.cycle = .programSel) (hfa : fa < s.cfg.flashSize) (v : Byte) :
    perform (.flashWr fa v) s = .next ((s.flashProgram fa v).answer .done) := by
  rw [perform_flashWr fa hf, whenFlash_of_flash hl hf, maskFa_of_lt hfa, State.flashWrite, if_neg (by omega), hk]

theorem performAll_programSequence (hl : s.life = .live) (hc : s.cfg.Ok) (hf : s.cfg.hasFlash = true) (hb : s.flash.busy = 0)
    (hk : s.flash.cycle = .idle) (hfa : fa < s.cfg.flashSize) (v : Byte) :
    performAll [.flashWr 0x5555 0xAA, .flashWr 0x2AAA 0x55, .flashWr 0x5555 0xA0, .flashWr fa v] s
      = .next (s.programmed fa v) := by
  have hlast : perform (.flashWr fa v) s.programSetup = .next (s.programmed fa v) :=
    perform_flashWr_of_programSel (s := s.programSetup) hl hf hb rfl hfa v
  rw [performAll_programSetup hl hc hf hb hk, performAll_cons hlast, performAll]

theorem stores_programmed (hg : s.Good) (hf : s.cfg.hasFlash = true) (hb : s.flash.busy = 0) (fa : Nat) (v : Byte) :
    Stores s (s.programmed fa v) (some (.fstore, fa)) v := by
  have hgood : s.programSetup.Good := (hg.idleFlash hf hb .programSel s.flash.idMode).answer .done
  intro b k
  rw [← peek_congr (t := s.programSetup) (s := s) rfl rfl b k]
  exact stores_flashProgram hgood fa v b k

theorem perform_flashRd_of_busy (hl : s.life = .live) (hf : s.cfg.hasFlash = true) (hb : 0 < s.flash.busy)
    (hfa : fa < s.cfg.flashSize) : perform (.flashRd fa) s
      = .next ((s.flashStatus fa).1.answer (.byte (statusByte (s.peek .fstore fa) (s.flash.busy - 1)))) := by
  rw [perform_flashRd fa hf, whenFlash_of_flash hl hf, maskFa_of_lt hfa, flashRead_of_busy hb, State.flashStatus]

theorem perform_flashRd_of_array (hl : s.life = .live) (hf : s.cfg.hasFlash = true) (hb : s.flash.busy = 0)
    (h : s.flash.idMode = false ∨ 1 < fa) (hfa : fa < s.cfg.flashSize) :
    perform (.flashRd fa) s = .next (s.answer (.byte (s.peek .fstore fa))) := by
  rw [perform_flashRd fa hf, whenFlash_of_flash hl hf, maskFa_of_lt hfa, flashRead_of_array hb h]

/-- Settles O44: the sequence ends with the byte stored and the flash busy for four reads, which return status bytes; then the
array shows the byte. -/
theorem programSequenceStoresTheByte : Obligations.ProgramSequenceStoresTheByte := by
  intro s fa v hl hg hf hk hb hid hfa
  have hrun := performAll_programSequence hl hg.cfgOk hf hb hk hfa v
  have hstored := stores_programmed hg hf hb fa v
  have hbyte : (s.programmed fa v).peek .fstore fa = v := (hstored .fstore fa).trans (if_pos rfl)
  have hbusy : (s.programmed fa v).flash.busy = 4 := rfl
  have hfirst := perform_flashRd_of_busy (s := s.programmed fa v) hl hf (by omega) hfa
  obtain ⟨u, hreads, hu⟩ := busyEndsAfterThatManyReads [fa, fa, fa, fa] (s.programmed fa v) hl hf rfl
  refine ⟨_, u, hrun, hbusy, hstored, ⟨_, _, hfirst, rfl, ?_⟩, hreads, ?_⟩
  · rw [hbyte]
    exact statusByte_ne v _
  · generalize u.result = x at hu
    subst hu
    refine ⟨_, perform_flashRd_of_array hl hf rfl hid hfa, ?_⟩
    exact congrArg Result.byte ((peek_congr rfl rfl _ _).trans hbyte)

end Sys2Proof.Machine
end

section
/-! SUPPORT. The statements of 43_renderer: a drawn line pixel by pixel, what it depends on, the host buffer pixel by pixel, and
which operations read what PRESENT writes. -/

namespace Sys2Proof.Machine

open Sys2Proof.Claims

variable {s t u : State} {r : Request}

/-! ## Buffers made of blocks -/

section
variable {α : Type} {β : Type}

/-- Entry `i` of block `k` of a list made of blocks of one width. -/
theorem getElem?_flatMap_blocks {f : α → List β} {n : Nat} (hf : ∀ a, (f a).length = n) (l : List α) (k : Nat) {i : Nat}
    (hi : i < n) : (l.flatMap f)[n * k + i]? = l[k]?.bind fun a => (f a)[i]? := by
  induction l generalizing k with
  | nil => simp
  | cons a l ih =>
    rw [List.flatMap_cons]
    cases k with
    | zero => rw [Nat.mul_zero, Nat.zero_add, List.getElem?_append_left (by rwa [hf])]; rfl
    | succ k =>
      have hsub : n * (k + 1) + i - n = n * k + i := by rw [Nat.mul_succ]; omega
      rw [List.getElem?_append_right (by rw [hf, Nat.mul_succ]; omega), hf, hsub, ih]
      rfl

/-- The same for the blocks `f 0`, `f 1` and so on. -/
theorem getD_flatMap_range {f : Nat → List β} {m n k i : Nat} (hf : ∀ j, (f j).length = n) (hk : k < m) (hi : i < n)
    (d : β) : ((List.range m).flatMap f).getD (n * k + i) d = (f k).getD i d := by
  rw [List.getD_eq_getElem?_getD, getElem?_flatMap_blocks hf _ _ hi, List.getElem?_range hk, List.getD_eq_getElem?_getD]
  rfl

variable [DecidableEq α] {fill : Nat → α}

theorem mem_foldr_cons {f : Nat → α} {ks : List Nat} {p : Nat × α}
    (h : p ∈ ks.foldr (fun j m => Sparse.cons fill j (f j) m) []) : p.1 ∈ ks := by
  induction ks with
  | nil => simp at h
  | cons j ks ih =>
    obtain ⟨rfl, -⟩ | h := Sparse.mem_cons_entry h
    · exact List.mem_cons_self
    · exact List.mem_cons_of_mem _ (ih h)

/-- A buffer put together from the values of `f` at rising indices reads as `f` there and as the fill elsewhere. -/
theorem get_foldr_cons (f : Nat → α) {ks : List Nat} (hks : ks.Pairwise (· < ·)) (k : Nat) :
    Sparse.get fill (ks.foldr (fun j m => Sparse.cons fill j (f j) m) []) k = if k ∈ ks then f k else fill k := by
  induction ks with
  | nil => simp
  | cons j ks ih =>
    obtain ⟨hj, hks⟩ := List.pairwise_cons.1 hks
    rw [List.foldr_cons]
    by_cases e : j = k
    · subst e
      rw [Sparse.get_cons_same fun p hp => (hj _ (mem_foldr_cons hp)).ne', if_pos List.mem_cons_self]
    · rw [Sparse.get_cons_other e, ih hks]
      simp [Ne.symm e]

omit [DecidableEq α] in
theorem get_of_not_listed {m : Sparse α} {k : Nat} (h : listed m k = false) : Sparse.get fill m k = fill k :=
  Sparse.get_of_not_mem (by simpa [listed] using h)

end

/-! ## One pixel by the formulas (43 R263 to R268) -/

/-- The offset of a glyph as a number (43 R263). -/
theorem glyphOffset_eq (code attr : Byte) {sub : Nat} (h : sub < 8) :
    glyphOffset code attr sub = (attr.toNat / 128 * 256 + code.toNat) * 8 + sub := by
  have hcode := code.isLt
  have hattr := attr.isLt
  have hbit : (attr.extractLsb' 7 1).toNat = attr.toNat / 128 := by
    rw [BitVec.extractLsb'_toNat, Nat.shiftRight_eq_div_pow]
    omega
  unfold glyphOffset
  rw [BitVec.toNat_append, ← Nat.shiftLeft_add_eq_or_of_lt (BitVec.isLt _), BitVec.toNat_append,
    ← Nat.shiftLeft_add_eq_or_of_lt code.isLt, Nat.shiftLeft_eq, Nat.shiftLeft_eq, hbit, BitVec.toNat_ofNat]
  omega

/-- The offset of an overlay pattern as a number (43 R266). -/
theorem overlayOffset_eq (pcode pattr : Byte) {sub : Nat} (h : sub < 8) :
    overlayOffset pcode pattr sub = (pattr.toNat / 64 * 256 + pcode.toNat) * 8 + sub := by
  have hcode := pcode.isLt
  have hattr := pattr.isLt
  have hbits : (pattr.extractLsb' 6 2).toNat = pattr.toNat / 64 := by
    rw [BitVec.extractLsb'_toNat, Nat.shiftRight_eq_div_pow]
    omega
  unfold overlayOffset
  rw [BitVec.toNat_append, ← Nat.shiftLeft_add_eq_or_of_lt (BitVec.isLt _), BitVec.toNat_append,
    ← Nat.shiftLeft_add_eq_or_of_lt pcode.isLt, Nat.shiftLeft_eq, Nat.shiftLeft_eq, hbits, BitVec.toNat_ofNat]
  omega

theorem foreground_eq (attr : Byte) : foreground attr = BitVec.ofNat 3 (attr.toNat / 16) := by
  apply BitVec.eq_of_toNat_eq
  rw [foreground, BitVec.extractLsb'_toNat, Nat.shiftRight_eq_div_pow, BitVec.toNat_ofNat]

theorem background_eq (attr : Byte) : background attr = BitVec.ofNat 3 attr.toNat := by
  apply BitVec.eq_of_toNat_eq
  rw [background, BitVec.extractLsb'_toNat, Nat.shiftRight_zero, BitVec.toNat_ofNat]

theorem patBit_eq (lsbLeft : Bool) (pat : Byte) (i : Nat) : patBit lsbLeft pat i = bitFromLeft lsbLeft pat i := by
  cases lsbLeft <;> rfl

/-- A colour from its three planes, green the highest bit (43 R267). -/
theorem colour_of_planes (g r b : Bool) :
    (BitVec.ofBool g ++ BitVec.ofBool r ++ BitVec.ofBool b : Colour) = BitVec.ofNat 3 (g.toNat * 4 + r.toNat * 2 + b.toNat) := by
  revert g r b
  decide

/-- A pixel is the value of the formulas (43 R260 to R269). -/
theorem pixel_eq (s : State) (y c i : Nat) : s.pixel y c i = expectedPixel s y c i := by
  have hsub : y % 8 < 8 := Nat.mod_lt _ (by decide)
  unfold State.pixel expectedPixel State.overlayCell
  simp only [State.textCell, State.textPattern, cellIndex, cellsPerLine, glyphOffset_eq _ _ hsub, overlayOffset_eq _ _ hsub,
    foreground_eq, background_eq, patBit_eq, Nat.zero_add]
  cases s.cfg.overlay with
  | false => rfl
  | true =>
    cases (s.peek .vram (0xC00 + (40 * (y / 8) + c))).getLsbD 3 with
    | false => rfl
    | true =>
      simp only [if_true, Bool.and_self, overlayPixel, colour_of_planes, patBit_eq]
      cases s.cfg.policy s.latch.priority <;> rfl

/-! ## A drawn line (43 R260, R275) -/

/-- Pixel `i` of cell `c` of a rendered line. -/
theorem renderedLine_getD {y c i : Nat} (hc : c < cellsPerLine) (hi : i < 8) :
    (s.renderedLine y).getD (8 * c + i) 0 = expectedPixel s y c i := by
  unfold State.renderedLine
  rw [getD_flatMap_range (fun c => by simp) hc hi, ← pixel_eq]
  simp [hi]

/-- Rendering a line of a good core gives that line and leaves the others alone. -/
theorem framePixel_drawLine (hg : s.Good) (y y' x : Nat) :
    (s.drawLine y).framePixel y' x = if y = y' then (s.renderedLine y).getD x 0 else s.framePixel y' x := by
  obtain ⟨⟨hrise, -⟩, -⟩ := hg.frameOk
  unfold State.framePixel
  rw [State.drawLine_video, Sparse.get_set hrise]
  split <;> rfl

theorem framePixel_answer (x : Result) : (s.answer x).framePixel = s.framePixel := rfl

/-- Settles O50: the line is 40 blocks of 8 pixels, each the value of the formulas. -/
theorem renderLineDrawsTheFormulas : Obligations.RenderLineDrawsTheFormulas := by
  intro s y hl hg _
  refine ⟨(s.drawLine y).answer .done, whenLive_of_live hl, fun c hc i hi => ?_, fun y' x hy => ?_, rfl⟩
  · rw [framePixel_answer, framePixel_drawLine hg, if_pos rfl, renderedLine_getD hc hi]
  · rw [framePixel_answer, framePixel_drawLine hg, if_neg hy.symm]

/-- What the formulas read: the configuration, `PRIORITY`, `VRAM`, `CGROM` and `PCG` (43 R275). -/
theorem expectedPixel_congr (hc : s.cfg = u.cfg) (hp : s.latch.priority = u.latch.priority)
    (hvram : ∀ k, s.peek .vram k = u.peek .vram k) (hcg : ∀ k, s.peek .cgrom k = u.peek .cgrom k)
    (hpcg : ∀ k, s.peek .pcg k = u.peek .pcg k) (y c i : Nat) : expectedPixel s y c i = expectedPixel u y c i := by
  simp only [expectedPixel, hc, hp, hvram, hcg, hpcg]

/-- Settles O51: both lines are the values of the formulas, which read the shared inputs alone. -/
theorem rendererReadsItsInputsOnly : Obligations.RendererReadsItsInputsOnly := by
  intro s u t w y hs hu hc hp hvram hcg hpcg ht hw x
  obtain ⟨-, rfl⟩ := whenLive_next.1 ht
  obtain ⟨-, rfl⟩ := whenLive_next.1 hw
  have hpixel : s.pixel y = u.pixel y := by
    funext c i
    rw [pixel_eq, pixel_eq, expectedPixel_congr hc hp hvram hcg hpcg]
  have hline : s.renderedLine y = u.renderedLine y := by
    unfold State.renderedLine
    rw [hpixel]
  rw [framePixel_answer, framePixel_answer, framePixel_drawLine hs, framePixel_drawLine hu, hline, if_pos rfl, if_pos rfl]

/-! ## The host buffer (43 R270 to R274) -/

/-- One channel of a host pixel (43 R271, R272). -/
theorem channel_eq (blend cur prv : Bool) :
    (if blend then ((if cur then 255 else 0 : Byte) >>> 1) + ((if prv then 255 else 0 : Byte) >>> 1)
      else (if cur then 255 else 0 : Byte)) = expectedChannel blend cur prv := by
  revert blend cur prv
  decide

theorem presentPixel_eq (c : Config) (cur prv : Colour) : presentPixel c cur prv = expectedRgb c.blend cur prv := by
  unfold presentPixel expectedRgb
  simp only [← channel_eq]
  cases c.blend <;> rfl

/-- A pixel of a host row: the doubled pixel of its frame line, or black in an odd row under the scanline option (43 R270,
R273). -/
theorem presentRow_getD (s : State) (Y : Nat) {X : Nat} (hX : X < 640) : (s.presentRow Y).getD X Rgb.black =
    if s.cfg.scanline = true ∧ Y % 2 = 1 then Rgb.black
    else expectedRgb s.cfg.blend (s.framePixel (Y / 2) (X / 2)) (s.prevPixel (Y / 2) (X / 2)) := by
  unfold State.presentRow
  split
  · exact List.getD_replicate _ hX
  · have hsplit : X = 2 * (X / 2) + X % 2 := (Nat.div_add_mod X 2).symm
    have hmod : X % 2 < 2 := Nat.mod_lt _ (by decide)
    have hhalf : X / 2 < frameW := by unfold frameW; omega
    conv_lhs => rw [hsplit]
    rw [getD_flatMap_range (fun x => List.length_replicate) hhalf hmod, List.getD_replicate _ hmod, presentPixel_eq]

/-- The colour index 0 is black, and stays black when it is blended with itself (43 R271, R272). -/
theorem presentPixel_zero (c : Config) : presentPixel c 0 0 = Rgb.black := by
  rw [presentPixel_eq]
  cases c.blend <;> rfl

theorem lineFill_getD (y x : Nat) : (lineFill y).getD x 0 = 0 := by
  rw [List.getD_eq_getElem?_getD]
  exact List.getElem?_getD_replicate_default_eq (d := 0) frameW x

theorem framePixel_of_not_listed {y : Nat} (h : listed s.video.frame y = false) (x : Nat) : s.framePixel y x = 0 := by
  rw [State.framePixel, get_of_not_listed h, lineFill_getD]

theorem prevPixel_of_not_listed {y : Nat} (h : listed s.video.prev y = false) (x : Nat) : s.prevPixel y x = 0 := by
  rw [State.prevPixel, get_of_not_listed h, lineFill_getD]

/-- A row whose line is listed neither in `FRAME` nor in `PREV` is black. -/
theorem presentRow_of_unlit {Y : Nat} (hf : listed s.video.frame (Y / 2) = false) (hp : listed s.video.prev (Y / 2) = false) :
    s.presentRow Y = rowFill Y := by
  refine List.eq_replicate_iff.2 ⟨presentRow_length Y, fun p hmem => ?_⟩
  unfold State.presentRow at hmem
  split at hmem
  · exact List.eq_of_mem_replicate hmem
  · obtain ⟨x, -, hx⟩ := List.mem_flatMap.1 hmem
    rw [List.eq_of_mem_replicate hx, framePixel_of_not_listed hf, prevPixel_of_not_listed hp, presentPixel_zero]

/-- Every row of `HOST` after PRESENT, whether it is kept in the list or not. -/
theorem get_presentRows (s : State) {Y : Nat} (hY : Y < 400) : Sparse.get rowFill s.presentRows Y = s.presentRow Y := by
  have hrise : s.litRows.Pairwise (· < ·) := List.pairwise_lt_range.filter _
  rw [State.presentRows, get_foldr_cons s.presentRow hrise]
  split
  · rfl
  · next hunlit =>
    simp only [State.litRows, List.mem_filter, List.mem_range, hostH, hY, true_and, Bool.or_eq_true, not_or,
      Bool.not_eq_true] at hunlit
    obtain ⟨hf, hp⟩ := hunlit
    exact (presentRow_of_unlit hf hp).symm

/-- Settles O52: the rows that are kept are written pixel by pixel, and the others are black by the formulas too. -/
theorem presentExpandsTheFrame : Obligations.PresentExpandsTheFrame := by
  intro s hl _
  refine ⟨s.presentFrame.answer .done, whenLive_of_live hl, fun Y hY X hX => ?_, fun y x => rfl, rfl⟩
  unfold State.hostPixel
  rw [State.answer_video, State.presentFrame_video]
  exact (congrArg (·.getD X Rgb.black) (get_presentRows s hY)).trans (presentRow_getD s Y hX)

/-! ## PRESENT and the bus (43 R270) -/

/-- The state with other contents of `HOST` and `PREV` and another last result: what PRESENT can make of a state. -/
def State.shown (s : State) (host : Sparse (List Rgb)) (prev : Sparse Line) (x : Result) : State :=
  { s with video := { s.video with host := host, prev := prev }, result := x }

section
variable (s) (host : Sparse (List Rgb)) (prev : Sparse Line) (x : Result)

/-- What PRESENT leaves differs in `HOST`, `PREV` and the result alone. -/
theorem presentFrame_eq_shown : s.presentFrame.answer .done = s.shown s.presentRows s.video.frame .done := rfl

@[simp] theorem State.shown_cfg : (s.shown host prev x).cfg = s.cfg := rfl
@[simp] theorem State.shown_latch : (s.shown host prev x).latch = s.latch := rfl
@[simp] theorem State.shown_raster : (s.shown host prev x).raster = s.raster := rfl
@[simp] theorem State.shown_flash : (s.shown host prev x).flash = s.flash := rfl

/-! ### Operations that neither read nor write `HOST`, `PREV` and the result -/

variable {s host prev x} in
/-- A choice commutes with the change of `HOST`, `PREV` and the result where both alternatives do. -/
theorem ite_shown {c : Prop} [Decidable c] {a a' b b' : State} (ha : a' = a.shown host prev x) (hb : b' = b.shown host prev x) :
    (if c then a' else b') = (if c then a else b).shown host prev x := by
  split
  · exact ha
  · exact hb

theorem drive_shown (g : Sig) (v : Bool) : (s.shown host prev x).drive g v = (s.drive g v).shown host prev x := by
  unfold State.drive
  exact ite_shown rfl rfl

theorem pcgStallCheck_shown : (s.shown host prev x).pcgStallCheck = s.pcgStallCheck.shown host prev x :=
  ite_shown (drive_shown s host prev x .busreq true) rfl

theorem winWrite_shown (a : Addr) (v : Byte) : (s.shown host prev x).winWrite a v = (s.winWrite a v).shown host prev x := by
  have htarget : (s.shown host prev x).winTarget a = s.winTarget a := rfl
  rw [winWrite_eq, winWrite_eq, htarget]
  cases s.winTarget a <;> rfl

theorem pcgPortWrite_shown (d : Byte) : (s.shown host prev x).pcgPortWrite d = (s.pcgPortWrite d).shown host prev x := by
  unfold State.pcgPortWrite
  exact ite_shown rfl rfl

theorem setPcgData_shown (v : Byte) : (s.shown host prev x).setPcgData v = (s.setPcgData v).shown host prev x := by
  unfold State.setPcgData
  exact ite_shown rfl rfl

theorem setPcgAddr_shown (v : Byte) : (s.shown host prev x).setPcgAddr v = (s.setPcgAddr v).shown host prev x := by
  unfold State.setPcgAddr
  exact ite_shown rfl rfl

theorem setPcgCtrl_shown (v : Byte) : (s.shown host prev x).setPcgCtrl v = (s.setPcgCtrl v).shown host prev x := by
  unfold State.setPcgCtrl
  exact ite_shown rfl rfl

theorem setPcgEn_shown (b : Bool) : (s.shown host prev x).setPcgEn b = (s.setPcgEn b).shown host prev x := by
  unfold State.setPcgEn
  exact ite_shown rfl rfl

theorem setPcgBank_shown (k : BitVec 2) : (s.shown host prev x).setPcgBank k = (s.setPcgBank k).shown host prev x := by
  unfold State.setPcgBank
  exact ite_shown rfl rfl

theorem setPriority_shown (k : BitVec 2) : (s.shown host prev x).setPriority k = (s.setPriority k).shown host prev x := by
  unfold State.setPriority
  exact ite_shown rfl rfl

theorem setBootPage_shown (v : Byte) : (s.shown host prev x).setBootPage v = (s.setBootPage v).shown host prev x := by
  unfold State.setBootPage
  exact ite_shown rfl rfl

theorem portWrite_shown (p : Port) (v : Byte) : (s.shown host prev x).portWrite p v = (s.portWrite p v).shown host prev x := by
  have hall : (s.shown host prev x).portMonAll = s.portMonAll.shown host prev x :=
    setPcgEn_shown ((s.setMonL true).setMonH true) host prev x false
  have hopen : ∀ k, (s.shown host prev x).portPcgOpen k = (s.portPcgOpen k).shown host prev x := fun k => by
    rw [State.portPcgOpen, setPcgEn_shown, setPcgBank_shown, State.portPcgOpen]
  unfold State.portWrite
  simp only
  refine ite_shown rfl (ite_shown rfl (ite_shown rfl (ite_shown rfl (ite_shown hall (ite_shown (hopen _) ?_)))))
  exact ite_shown (setPcgEn_shown ..) (ite_shown (setBootPage_shown ..) (ite_shown (setPriority_shown ..) rfl))

theorem flashRead_shown (fa : Nat) :
    (s.shown host prev x).flashRead fa = (s.flashRead fa).map (fun t => t.shown host prev x) id := by
  unfold State.flashRead
  rw [apply_ite (Prod.map _ _), apply_ite (Prod.map _ _)]
  rfl

theorem flashWrite_shown (fa : Nat) (v : Byte) :
    (s.shown host prev x).flashWrite fa v = (s.flashWrite fa v).shown host prev x := by
  unfold State.flashWrite
  refine ite_shown rfl ?_
  simp only [State.shown_flash]
  cases s.flash.cycle with
  | idle => exact ite_shown rfl (ite_shown rfl rfl)
  | unlock1 | eraseSel | eraseUnlock1 => exact ite_shown rfl rfl
  | unlock2 => exact ite_shown rfl (ite_shown rfl (ite_shown rfl (ite_shown rfl rfl)))
  | programSel => rfl
  | eraseUnlock2 => exact ite_shown rfl (ite_shown rfl rfl)

/-! ### The raster, which draws in `FRAME` -/

theorem hblankStart_shown : (s.shown host prev x).hblankStart = s.hblankStart.shown host prev x := by
  unfold State.hblankStart
  rw [drive_shown]
  rfl

theorem hblankEnd_shown : (s.shown host prev x).hblankEnd = s.hblankEnd.shown host prev x :=
  drive_shown s host prev x .hblank false

theorem hsyncStart_shown : (s.shown host prev x).hsyncStart = s.hsyncStart.shown host prev x :=
  drive_shown s host prev x .hsync true

theorem hsyncEnd_shown : (s.shown host prev x).hsyncEnd = s.hsyncEnd.shown host prev x :=
  drive_shown s host prev x .hsync false

theorem pcgWindow_shown : (s.shown host prev x).pcgWindow = s.pcgWindow.shown host prev x :=
  ite_shown (drive_shown { s with raster.pcgSafe := true } host prev x .busreq false) rfl

theorem at_shown {ev : State → State} (h : (ev (s.shown host prev x)) = (ev s).shown host prev x) (hit : Bool) :
    (s.shown host prev x).at hit ev = (s.at hit ev).shown host prev x := ite_shown h rfl

theorem lineFlags_shown : (s.shown host prev x).lineFlags = s.lineFlags.shown host prev x := by
  unfold State.lineFlags
  simp only [drive_shown]
  rfl

theorem closeWindow_shown : (s.shown host prev x).closeWindow = s.closeWindow.shown host prev x :=
  ite_shown (drive_shown { s with raster.pcgSafe := false } host prev x .busreq false) rfl

theorem drawVisible_shown : (s.shown host prev x).drawVisible = s.drawVisible.shown host prev x := ite_shown rfl rfl

theorem newline_shown : (s.shown host prev x).newline = s.newline.shown host prev x := by
  rw [newline_eq, newline_eq, lineFlags_shown, closeWindow_shown, drawVisible_shown]

theorem tick_shown : (s.shown host prev x).tick = s.tick.shown host prev x := by
  have hq : ∀ q : Raster, { s.shown host prev x with raster := q } = State.shown { s with raster := q } host prev x :=
    fun _ => rfl
  by_cases h : s.raster.hcnt + 1 = s.cfg.timing.cpl
  · have h' : (s.shown host prev x).raster.hcnt + 1 = (s.shown host prev x).cfg.timing.cpl := h
    rw [tick_of_wrap h, tick_of_wrap h', hq, newline_shown, State.shown_raster, State.shown_cfg]
  · have h' : (s.shown host prev x).raster.hcnt + 1 ≠ (s.shown host prev x).cfg.timing.cpl := h
    rw [tick_of_inside h, tick_of_inside h']
    simp only [hq]
    simp only [State.shown_cfg, State.shown_raster, at_shown, hblankStart_shown, hblankEnd_shown, hsyncStart_shown,
      hsyncEnd_shown, pcgWindow_shown]

/-! ### Memory accesses, which set the result -/

variable {s host prev x} in
/-- The same where the alternatives set the result. -/
theorem ite_shown_result {c : Prop} [Decidable c] {a a' b b' : State} (ha : a' = a.shown host prev a.result)
    (hb : b' = b.shown host prev b.result) :
    (if c then a' else b') = (if c then a else b).shown host prev (if c then a else b).result := by
  split
  · exact ha
  · exact hb

theorem winAccess_shown (acc : Access) (a : Addr) (n : Nat) :
    (s.shown host prev x).winAccess acc a n = (s.winAccess acc a n).shown host prev (s.winAccess acc a n).result := by
  cases acc with
  | read => rfl
  | write v =>
    rw [winAccess_write, winWrite_shown]
    rfl

theorem accPcgwin_shown (acc : Access) (a : Addr) :
    (s.shown host prev x).accPcgwin acc a = (s.accPcgwin acc a).shown host prev (s.accPcgwin acc a).result := by
  unfold State.accPcgwin
  rw [pcgStallCheck_shown, winAccess_shown]

theorem accMmio_shown (acc : Access) (k : MmioClass) :
    (s.shown host prev x).accMmio acc k = (s.accMmio acc k).shown host prev (s.accMmio acc k).result := by
  cases acc with
  | read => cases k <;> rfl
  | write v =>
    cases k with
    | pio k | pit k => rfl
    | aux => rfl
    | pcgwData => exact congrArg (·.answer (.memWrite 0)) (setPcgData_shown s host prev x v)
    | pcgwAddr => exact congrArg (·.answer (.memWrite 0)) (setPcgAddr_shown s host prev x v)
    | pcgwCtrl =>
      simp only [State.accMmio, State.accPcgwCtrl, pcgPortWrite_shown, setPcgCtrl_shown]
      rfl

theorem accBootflash_shown (acc : Access) (off : BitVec 12) :
    (s.shown host prev x).accBootflash acc off = (s.accBootflash acc off).shown host prev (s.accBootflash acc off).result := by
  cases acc with
  | read =>
    simp only [State.accBootflash, flashRead_shown]
    rfl
  | write v =>
    simp only [State.accBootflash, flashWrite_shown]
    rfl

theorem memAccess_shown (acc : Access) (a : Addr) :
    (s.shown host prev x).memAccess acc a = (s.memAccess acc a).shown host prev (s.memAccess acc a).result := by
  unfold State.memAccess
  refine ite_shown_result (accPcgwin_shown s host prev x acc a) ?_
  simp only [State.shown_cfg, State.shown_latch]
  cases intercepted s.cfg s.latch a with
  | some k => exact accMmio_shown s host prev x acc k
  | none =>
    have hwindow := winAccess_shown s host prev x acc
    exact ite_shown_result (ite_shown_result (accBootflash_shown s host prev x acc _) (hwindow _ _))
      (ite_shown_result (hwindow _ _) (hwindow _ _))

end

/-- A bus, scheduler or flash-local request does not look at `HOST`, `PREV` and the result before it, and leaves the first two
alone. -/
theorem perform_shown (hr : ofBusOrScheduler r) (h : perform r s = .next t) (host : Sparse (List Rgb)) (prev : Sparse Line)
    (x : Result) : perform r (s.shown host prev x) = .next (t.shown host prev t.result) := by
  cases r with
  | bus tc =>
    rw [perform_bus, whenLive_next] at *
    obtain ⟨hl, rfl⟩ := h
    refine ⟨hl, ?_⟩
    generalize (tcKind tc).toNat = n
    rcases n with _ | _ | _ | n
    · exact (memAccess_shown s host prev x .read _).symm
    · exact (memAccess_shown s host prev x (.write _) _).symm
    · rfl
    · exact congrArg (·.answer .done) (portWrite_shown s host prev x _ _).symm
  | flashRd fa =>
    cases hf : s.cfg.hasFlash with
    | false => rw [(perform_noFlash (v := 0) hf fa).1] at h; cases h
    | true =>
      rw [perform_flashRd fa hf, whenFlash_next] at h
      obtain ⟨hl, -, rfl⟩ := h
      rw [perform_flashRd fa (s := s.shown host prev x) hf, whenFlash_of_flash (s := s.shown host prev x) hl hf,
        State.shown_cfg, flashRead_shown]
      rfl
  | flashWr fa v =>
    cases hf : s.cfg.hasFlash with
    | false => rw [(perform_noFlash hf fa).2] at h; cases h
    | true =>
      rw [perform_flashWr fa hf, whenFlash_next] at h
      obtain ⟨hl, -, rfl⟩ := h
      rw [perform_flashWr fa (s := s.shown host prev x) hf, whenFlash_of_flash (s := s.shown host prev x) hl hf,
        State.shown_cfg, flashWrite_shown]
      rfl
  | tick =>
    rw [perform_tick, whenLive_next] at *
    obtain ⟨hl, rfl⟩ := h
    exact ⟨hl, congrArg (·.answer .done) (tick_shown s host prev x).symm⟩
  | tempo =>
    rw [perform_tempo, whenLive_next] at *
    obtain ⟨hl, rfl⟩ := h
    exact ⟨hl, congrArg (·.answer .done) (drive_shown s host prev x .tempo _).symm⟩
  | blink =>
    rw [perform_blink, whenLive_next] at *
    obtain ⟨hl, rfl⟩ := h
    exact ⟨hl, congrArg (·.answer .done) (drive_shown s host prev x .blink _).symm⟩
  | _ => exact hr.elim

/-- What PRESENT writes depends on the configuration, `FRAME` and `PREV` (43 R270). -/
theorem presentRows_congr (hc : t.cfg = s.cfg) (hf : t.video.frame = s.video.frame) (hp : t.video.prev = s.video.prev) :
    t.presentRows = s.presentRows := by
  simp only [State.presentRows, State.litRows, State.presentRow, State.framePixel, State.prevPixel, hc, hf, hp]

/-! ### The life of the core -/

theorem memAccess_life (acc : Access) (a : Addr) : (s.memAccess acc a).life = s.life := by
  have window : ∀ (u : State) b n, (u.winAccess acc b n).life = u.life := fun u b n => by
    cases acc with
    | read => rfl
    | write v => simp [winAccess_write]
  apply memAccess_cases (P := fun t => t.life = s.life)
  case pcgwin => exact fun _ => (window _ a 0).trans (State.pcgStallCheck_life s)
  case mmio =>
    intro k _
    rw [accMmio_frame]
  case bootflash =>
    intro _ _
    cases acc with
    | read => rw [State.accBootflash, State.answer_life, flashRead_state]
    | write v => rw [State.accBootflash, State.answer_life, flashWrite_frame]
  case window => exact window s

/-- A bus, scheduler or flash-local request leaves the core living. -/
theorem Effect.life (h : Effect s r t) (hr : ofBusOrScheduler r) : t.life = s.life := by
  cases h with
  | memRead tc => exact memAccess_life .read _
  | memWrite tc => exact memAccess_life (.write _) _
  | portRead => rfl
  | portWrite tc => rw [State.answer_life, portWrite_frame]
  | flashRd fa => rw [State.answer_life, flashRead_state]
  | flashWr fa v => rw [State.answer_life, flashWrite_frame]
  | tick => rw [State.answer_life, tick_frame]
  | tempo | blink => simp
  | present | reset | snapSave | snapLoad | snapMismatch | release => exact hr.elim

/-- Settles O53: the operation does not look at what PRESENT wrote, so it leaves `PREV` as it found it too, and PRESENT before and
after it shows the same frame unless the operation draws in it. -/
theorem presentCommutesWithTheBus : Obligations.PresentCommutesWithTheBus := by
  intro s p t r hr hp ht
  obtain ⟨hl, rfl⟩ := whenLive_next.1 hp
  obtain ⟨-, heff⟩ | ⟨_, _, rfl, -⟩ := effect_of_perform ht
  swap
  · exact hr.elim
  have hlife : t.life = .live := (heff.life hr).trans hl
  have hprev : t.video.prev = s.video.prev := by
    have hself := perform_shown hr ht s.video.host s.video.prev s.result
    have hs : s.shown s.video.host s.video.prev s.result = s := rfl
    rw [hs, ht, Host.Outcome.next.injEq] at hself
    rw [hself]
    rfl
  refine ⟨_, t.presentFrame.answer .done, perform_shown hr ht s.presentRows s.video.frame .done, whenLive_of_live hlife, rfl,
    rfl, fun hframe => ?_⟩
  rw [presentFrame_eq_shown, presentRows_congr heff.sameRoms.cfg hframe hprev, hframe]
  rfl

end Sys2Proof.Machine
end

section
/-! SUPPORT. The statement of 44_host_interface about what a load restores: cores equal in a snapshot's components answer the bus
and the scheduler alike and stay equal. -/

namespace Sys2Proof.Machine

open Sys2Proof.Claims

variable {s t u v s' t' : State} {r : Request}

/-! ## Two cores in step (44 R302) -/

/-- What an operation said to the outside: it appended `evs` to the signal trace and `calls` to the collaborator calls, and was
answered `n` bytes. -/
structure Says (s s' : State) (evs : List (Sig × Bool)) (calls : List PeriphCall) (n : Nat) : Prop where
  trace : s'.trace = s.trace ++ evs
  periph : s'.periph = s.periph ++ calls
  draws : s'.draws = s.draws + n

theorem Says.nothing (htrace : s'.trace = s.trace) (hperiph : s'.periph = s.periph) (hdraws : s'.draws = s.draws) :
    Says s s' [] [] 0 := ⟨by rw [htrace, List.append_nil], by rw [hperiph, List.append_nil], hdraws⟩

theorem Says.trans {evs evs' : List (Sig × Bool)} {calls calls' : List PeriphCall} {n n' : Nat} (h : Says s u evs calls n)
    (h' : Says u s' evs' calls' n') : Says s s' (evs ++ evs') (calls ++ calls') (n + n') :=
  ⟨by rw [h'.trace, h.trace, List.append_assoc], by rw [h'.periph, h.periph, List.append_assoc],
    by rw [h'.draws, h.draws, Nat.add_assoc]⟩

/-- From `s` and `t` two cores came to `s'` and `t'`, equal to the bus, and said the same on the way. -/
def InStep (s t s' t' : State) : Prop :=
  SameToTheBus s' t' ∧ ∃ evs calls n, Says s s' evs calls n ∧ Says t t' evs calls n

theorem InStep.silent (h : SameToTheBus s' t') (hs : Says s s' [] [] 0) (ht : Says t t' [] [] 0) : InStep s t s' t' :=
  ⟨h, [], [], 0, hs, ht⟩

theorem InStep.refl (h : SameToTheBus s t) : InStep s t s t := .silent h (.nothing rfl rfl rfl) (.nothing rfl rfl rfl)

theorem InStep.same (h : InStep s t s' t') : SameToTheBus s' t' := h.1

theorem InStep.trans (h : InStep s t u v) (h' : InStep u v s' t') : InStep s t s' t' := by
  obtain ⟨-, evs, calls, n, hs, ht⟩ := h
  obtain ⟨hsame, evs', calls', n', hs', ht'⟩ := h'
  exact ⟨hsame, _, _, _, hs.trans hs', ht.trans ht'⟩

/-- What is answered to the agent is not seen by the bus. -/
theorem InStep.answer (h : InStep s t u v) (x y : Result) : InStep s t (u.answer x) (v.answer y) :=
  h.trans (.silent ⟨h.same.cfg, h.same.life, h.same.latch, h.same.raster, h.same.flash, h.same.mems⟩ (.nothing rfl rfl rfl)
    (.nothing rfl rfl rfl))

theorem InStep.ite {c : Prop} [Decidable c] (ha : InStep s t u v) (hb : InStep s t s' t') :
    InStep s t (if c then u else s') (if c then v else t') := by
  split
  · exact ha
  · exact hb

/-- A change of the raster group that depends on the group alone. -/
theorem InStep.mapRaster (h : InStep s t u v) (f : Raster → Raster) :
    InStep s t { u with raster := f u.raster } { v with raster := f v.raster } :=
  h.trans (.silent ⟨h.same.cfg, h.same.life, h.same.latch, congrArg f h.same.raster, h.same.flash, h.same.mems⟩
    (.nothing rfl rfl rfl) (.nothing rfl rfl rfl))

/-- The state with what the bus does not see of it taken from another. -/
def State.beside (s o : State) : State :=
  { s with modified := o.modified, video := o.video, trace := o.trace, result := o.result, periph := o.periph, draws := o.draws,
           inbox := o.inbox }

/-- States equal to the bus differ in what `beside` exchanges. -/
theorem exists_beside (h : SameToTheBus s t) : ∃ o, t = s.beside o := by
  obtain ⟨hcfg, hlife, hlatch, hraster, hflash, hmems⟩ := h
  refine ⟨t, ?_⟩
  rw [State.beside, hcfg, hlife, hlatch, hraster, hflash, hmems]

theorem sameToTheBus_beside (s o : State) : SameToTheBus s (s.beside o) := ⟨rfl, rfl, rfl, rfl, rfl, rfl⟩

/-- An operation that neither reads nor writes what `beside` exchanges keeps two cores in step. -/
theorem inStep_beside {o : State} (h : Says s s' [] [] 0) : InStep s (s.beside o) s' (s'.beside o) :=
  .silent (sameToTheBus_beside s' o) h (.nothing rfl rfl rfl)

section
variable (h : SameToTheBus s t)
include h

/-! ### The shared operations -/

theorem inStep_drive (g : Sig) (x : Bool) : InStep s t (s.drive g x) (t.drive g x) := by
  obtain ⟨o, rfl⟩ := exists_beside h
  refine .ite (.refl h) ⟨⟨rfl, rfl, rfl, rfl, rfl, rfl⟩, [(g, x)], [], 0, ?_, ?_⟩
  · exact ⟨rfl, (List.append_nil _).symm, rfl⟩
  · exact ⟨rfl, (List.append_nil _).symm, rfl⟩

theorem inStep_pcgStallCheck : InStep s t s.pcgStallCheck t.pcgStallCheck := by
  obtain ⟨o, rfl⟩ := exists_beside h
  exact .ite (inStep_drive h .busreq true) (.refl h)

theorem inStep_winWrite (a : Addr) (x : Byte) : InStep s t (s.winWrite a x) (t.winWrite a x) := by
  obtain ⟨o, rfl⟩ := exists_beside h
  have htarget : (s.beside o).winTarget a = s.winTarget a := rfl
  rw [winWrite_eq, winWrite_eq, htarget]
  cases s.winTarget a with
  | none => exact .refl h
  | some p => exact inStep_beside (.nothing rfl rfl rfl)

theorem inStep_pcgPortWrite (d : Byte) : InStep s t (s.pcgPortWrite d) (t.pcgPortWrite d) := by
  obtain ⟨o, rfl⟩ := exists_beside h
  exact .ite (inStep_beside (.nothing rfl rfl rfl)) (.refl h)

/-! ### The writers of the latch -/

/-- A register of the latch that only some configurations have is written the same (10 R21 to R25). -/
theorem inStep_latchWriter (present : Config → Bool) (f : Config → Latch → Latch) :
    InStep s t (if present s.cfg then { s with latch := f s.cfg s.latch } else s)
      (if present t.cfg then { t with latch := f t.cfg t.latch } else t) := by
  obtain ⟨o, rfl⟩ := exists_beside h
  exact .ite (inStep_beside (.nothing rfl rfl rfl)) (.refl h)

theorem inStep_setPcgData (x : Byte) : InStep s t (s.setPcgData x) (t.setPcgData x) :=
  inStep_latchWriter h Config.hasPcgPort fun _ l => { l with pcgData := x }

theorem inStep_setPcgAddr (x : Byte) : InStep s t (s.setPcgAddr x) (t.setPcgAddr x) :=
  inStep_latchWriter h Config.hasPcgPort fun _ l => { l with pcgAddr := x }

theorem inStep_setPcgCtrl (x : Byte) : InStep s t (s.setPcgCtrl x) (t.setPcgCtrl x) :=
  inStep_latchWriter h Config.hasPcgPort fun _ l => { l with pcgCtrl := x }

theorem inStep_setPcgEn (x : Bool) : InStep s t (s.setPcgEn x) (t.setPcgEn x) :=
  inStep_latchWriter h Config.overlay fun _ l => { l with mode := modeWith l.mode 2 x }

theorem inStep_setPcgBank (k : BitVec 2) : InStep s t (s.setPcgBank k) (t.setPcgBank k) :=
  inStep_latchWriter h Config.overlay fun _ l => { l with pcgBank := k }

theorem inStep_setPriority (k : BitVec 2) : InStep s t (s.setPriority k) (t.setPriority k) :=
  inStep_latchWriter h Config.overlay fun _ l => { l with priority := k }

theorem inStep_setBootPage (x : Byte) : InStep s t (s.setBootPage x) (t.setBootPage x) :=
  inStep_latchWriter h Config.hasFlash fun c l => { l with bootPage := x.toNat % c.pages }

theorem inStep_setMonL (x : Bool) : InStep s t (s.setMonL x) (t.setMonL x) := by
  obtain ⟨o, rfl⟩ := exists_beside h
  exact inStep_beside (.nothing rfl rfl rfl)

theorem inStep_setMonH (x : Bool) : InStep s t (s.setMonH x) (t.setMonH x) := by
  obtain ⟨o, rfl⟩ := exists_beside h
  exact inStep_beside (.nothing rfl rfl rfl)

theorem inStep_portMonAll : InStep s t s.portMonAll t.portMonAll := by
  have hlow := inStep_setMonL h true
  have hboth := hlow.trans (inStep_setMonH hlow.same true)
  exact hboth.trans (inStep_setPcgEn hboth.same false)

theorem inStep_portPcgOpen (k : BitVec 2) : InStep s t (s.portPcgOpen k) (t.portPcgOpen k) :=
  (inStep_setPcgEn h true).trans (inStep_setPcgBank (inStep_setPcgEn h true).same k)

theorem inStep_portWrite (p : Port) (x : Byte) : InStep s t (s.portWrite p x) (t.portWrite p x) := by
  obtain ⟨o, rfl⟩ := exists_beside h
  refine .ite (inStep_setMonL h _) (.ite (inStep_setMonH h _) (.ite (inStep_setMonL h _) (.ite (inStep_setMonH h _) ?_)))
  refine .ite (inStep_portMonAll h) (.ite (inStep_portPcgOpen h _) (.ite (inStep_setPcgEn h _) ?_))
  exact .ite (inStep_setBootPage h _) (.ite (inStep_setPriority h _) (.refl h))

/-! ### The flash -/

/-- A flash read counts `BUSY` down the same (42 R212). -/
theorem inStep_flashRead (fa : Nat) : InStep s t (s.flashRead fa).1 (t.flashRead fa).1 := by
  obtain ⟨o, rfl⟩ := exists_beside h
  rw [flashRead_state, flashRead_state]
  exact inStep_beside (.nothing rfl rfl rfl)

theorem flashRead_byte_same (fa : Nat) : (t.flashRead fa).2 = (s.flashRead fa).2 := by
  obtain ⟨o, rfl⟩ := exists_beside h
  unfold State.flashRead
  rw [apply_ite Prod.snd, apply_ite Prod.snd, apply_ite Prod.snd, apply_ite Prod.snd]
  rfl

/-- A flash write does the same to the store and the scalars; `MODIFIED`, which it sets, is no part of a snapshot (44 R300). -/
theorem inStep_flashWrite (fa : Nat) (x : Byte) : InStep s t (s.flashWrite fa x) (t.flashWrite fa x) := by
  obtain ⟨o, rfl⟩ := exists_beside h
  have hscalars : ∀ f : FlashRegs, InStep s (s.beside o) { s with flash := f } { s.beside o with flash := f } :=
    fun _ => inStep_beside (.nothing rfl rfl rfl)
  have hstores : ∀ (m : Memories) (n : Nat), InStep s (s.beside o) (State.flashCommit { s with mems := m } n)
      (State.flashCommit { s.beside o with mems := m } n) :=
    fun _ _ => .silent ⟨rfl, rfl, rfl, rfl, rfl, rfl⟩ (.nothing rfl rfl rfl) (.nothing rfl rfl rfl)
  refine .ite (.refl h) ?_
  have hflash : (s.beside o).flash = s.flash := rfl
  simp only [hflash]
  cases s.flash.cycle with
  | idle => exact .ite (hscalars _) (.ite (hscalars _) (hscalars _))
  | unlock1 | eraseSel | eraseUnlock1 => exact .ite (hscalars _) (hscalars _)
  | unlock2 => exact .ite (hscalars _) (.ite (hscalars _) (.ite (hscalars _) (.ite (hscalars _) (hscalars _))))
  | programSel => exact hstores _ _
  | eraseUnlock2 => exact .ite (hstores _ _) (.ite (hstores _ _) (hscalars _))

/-! ### The raster -/

/-- With the overlay, the safe window opens or closes and the stall is released (41 R172, R182). -/
theorem inStep_moveWindow (safe : Bool) :
    InStep s t (if s.cfg.overlay then { s with raster.pcgSafe := safe }.releaseStall else s)
      (if t.cfg.overlay then { t with raster.pcgSafe := safe }.releaseStall else t) := by
  have hsafe := (InStep.refl h).mapRaster fun q => { q with pcgSafe := safe }
  have hrelease := hsafe.trans (inStep_drive hsafe.same .busreq false)
  obtain ⟨o, rfl⟩ := exists_beside h
  exact .ite hrelease (.refl h)

theorem inStep_pcgWindow : InStep s t s.pcgWindow t.pcgWindow := inStep_moveWindow h true
theorem inStep_closeWindow : InStep s t s.closeWindow t.closeWindow := inStep_moveWindow h false

theorem inStep_lineFlags : InStep s t s.lineFlags t.lineFlags := by
  have hvb := inStep_drive h .vblank (vblankAt s.raster.line)
  have hvs := hvb.trans (inStep_drive hvb.same .vsync (vsyncAt s.cfg.timing s.raster.line))
  have hhb := hvs.trans (inStep_drive hvs.same .hblank false)
  have hhs := hhb.trans (inStep_drive hhb.same .hsync false)
  unfold State.lineFlags
  rw [← h.raster, ← h.cfg]
  exact hhs.mapRaster fun q => { q with blankVram := false }

/-- The line drawn goes to `FRAME`, which the bus does not see. -/
theorem inStep_drawVisible : InStep s t s.drawVisible t.drawVisible := by
  obtain ⟨o, rfl⟩ := exists_beside h
  exact .ite (.silent ⟨rfl, rfl, rfl, rfl, rfl, rfl⟩ (.nothing rfl rfl rfl) (.nothing rfl rfl rfl)) (.refl h)

theorem inStep_newline : InStep s t s.newline t.newline := by
  have hflags := inStep_lineFlags h
  have hclose := hflags.trans (inStep_closeWindow hflags.same)
  rw [newline_eq, newline_eq]
  exact hclose.trans (inStep_drawVisible hclose.same)

theorem inStep_hblankStart : InStep s t s.hblankStart t.hblankStart :=
  (inStep_drive h .hblank true).mapRaster fun q => { q with blankVram := true }

omit h in
/-- An event that is performed or not, after two cores have come to `u` and `v` in step. -/
theorem InStep.at {ev : State → State} (h : InStep s t u v) (hev : SameToTheBus u v → InStep u v (ev u) (ev v)) (hit : Bool) :
    InStep s t (u.at hit ev) (v.at hit ev) := h.trans (.ite (hev h.same) (.refl h.same))

theorem inStep_tick : InStep s t s.tick t.tick := by
  obtain ⟨o, rfl⟩ := exists_beside h
  have hcount : ∀ q : Raster, InStep s (s.beside o) { s with raster := q } { s.beside o with raster := q } :=
    fun _ => inStep_beside (.nothing rfl rfl rfl)
  by_cases hwrap : s.raster.hcnt + 1 = s.cfg.timing.cpl
  · rw [tick_of_wrap hwrap, tick_of_wrap (s := s.beside o) hwrap]
    exact (hcount _).trans (inStep_newline (hcount _).same)
  · rw [tick_of_inside hwrap, tick_of_inside (s := s.beside o) hwrap]
    exact ((((hcount _).at inStep_hblankStart _).at (inStep_drive · .hblank false) _).at (inStep_drive · .hsync true) _).at
      (inStep_drive · .hsync false) _ |>.at inStep_pcgWindow _

end

/-! ### Answers -/

/-- Two cores in step answered the same, or a collaborator answered them after different numbers of bytes (44 R302; log entry
7). -/
structure Alike (s t s' t' : State) : Prop where
  inStep : InStep s t s' t'
  result : s'.draws = s.draws ∨ s.draws = t.draws → t'.result = s'.result

theorem InStep.alike (h : InStep s t s' t') (hr : t'.result = s'.result) : Alike s t s' t' := ⟨h, fun _ => hr⟩

theorem Alike.ite {c : Prop} [Decidable c] (ha : Alike s t u v) (hb : Alike s t s' t') :
    Alike s t (if c then u else s') (if c then v else t') := by
  split
  · exact ha
  · exact hb

section
variable (h : SameToTheBus s t)
include h

theorem inStep_winAccess (acc : Access) (a : Addr) (n : Nat) : InStep s t (s.winAccess acc a n) (t.winAccess acc a n) := by
  cases acc with
  | read => exact (InStep.refl h).answer _ _
  | write x => exact (inStep_winWrite h a x).answer _ _

theorem winAccess_result_same (acc : Access) (a : Addr) (n : Nat) :
    (t.winAccess acc a n).result = (s.winAccess acc a n).result := by
  cases acc with
  | read => rw [winAccess_read, winAccess_read, winRead_congr h.cfg.symm h.latch.symm h.mems.symm]; rfl
  | write x => rfl

theorem alike_accPcgwin (acc : Access) (a : Addr) : Alike s t (s.accPcgwin acc a) (t.accPcgwin acc a) := by
  have hstall := inStep_pcgStallCheck h
  exact (hstall.trans (inStep_winAccess hstall.same acc a 0)).alike (winAccess_result_same hstall.same acc a 0)

/-- The one answer that may differ: a collaborator's byte is a function of the bytes read before (40 R132; log entry 7). -/
theorem alike_periphAccess (acc : Access) (dev : Dev) (k : Nat) :
    Alike s t (s.periphAccess acc dev k) (t.periphAccess acc dev k) := by
  obtain ⟨o, rfl⟩ := exists_beside h
  cases acc with
  | read =>
    refine ⟨⟨⟨rfl, rfl, rfl, rfl, rfl, rfl⟩, [], [.read dev k], 1, ?_, ?_⟩, ?_⟩
    · exact ⟨(List.append_nil _).symm, rfl, rfl⟩
    · exact ⟨(List.append_nil _).symm, rfl, rfl⟩
    · rintro (hsame | hdraws)
      · exact absurd hsame (Nat.succ_ne_self _)
      · exact congrArg (fun n => Result.memRead (Config.periphByte dev k n) 0) hdraws.symm
  | write x =>
    refine InStep.alike ⟨⟨rfl, rfl, rfl, rfl, rfl, rfl⟩, [], [.write dev k x], 0, ?_, ?_⟩ rfl
    · exact ⟨(List.append_nil _).symm, rfl, rfl⟩
    · exact ⟨(List.append_nil _).symm, rfl, rfl⟩

theorem alike_accMmio (acc : Access) (k : MmioClass) : Alike s t (s.accMmio acc k) (t.accMmio acc k) := by
  have hread : Alike s t (s.answer (.memRead dummyRead 0)) (t.answer (.memRead dummyRead 0)) :=
    ((InStep.refl h).answer _ _).alike rfl
  cases k with
  | pio k => exact alike_periphAccess h acc .pio k.toNat
  | pit k => exact alike_periphAccess h acc .pit k.toNat
  | aux => exact alike_periphAccess h acc .aux 0
  | pcgwData =>
    cases acc with
    | read => exact hread
    | write x => exact ((inStep_setPcgData h x).answer _ _).alike rfl
  | pcgwAddr =>
    cases acc with
    | read => exact hread
    | write x => exact ((inStep_setPcgAddr h x).answer _ _).alike rfl
  | pcgwCtrl =>
    cases acc with
    | read => exact hread
    | write d =>
      have hcell := inStep_pcgPortWrite h d
      exact ((hcell.trans (inStep_setPcgCtrl hcell.same d)).answer _ _).alike rfl

theorem alike_flashRead (fa : Nat) (f : Byte → Result) :
    Alike s t ((s.flashRead fa).1.answer (f (s.flashRead fa).2)) ((t.flashRead fa).1.answer (f (t.flashRead fa).2)) :=
  ((inStep_flashRead h fa).answer _ _).alike (congrArg f (flashRead_byte_same h fa))

theorem alike_accBootflash (acc : Access) (off : BitVec 12) : Alike s t (s.accBootflash acc off) (t.accBootflash acc off) := by
  unfold State.accBootflash
  rw [← h.latch]
  cases acc with
  | read => exact alike_flashRead h _ (.memRead · 0)
  | write x => exact ((inStep_flashWrite h _ x).answer _ _).alike rfl

/-- The dispatch of MEMRD and MEMWR reads the configuration and the latch (40 R130, R131), and a wait count the raster too. -/
theorem alike_memAccess (acc : Access) (a : Addr) : Alike s t (s.memAccess acc a) (t.memAccess acc a) := by
  have hwindow : ∀ b n, Alike s t (s.winAccess acc b n) (t.winAccess acc b n) := fun b n =>
    (inStep_winAccess h acc b n).alike (winAccess_result_same h acc b n)
  unfold State.memAccess State.accBootrom State.accVram State.accWindow
  rw [← h.cfg, ← h.latch, ← h.raster]
  refine .ite (alike_accPcgwin h acc a) ?_
  cases intercepted s.cfg s.latch a with
  | some k => exact alike_accMmio h acc k
  | none => exact .ite (.ite (alike_accBootflash h acc _) (hwindow _ _)) (.ite (hwindow _ _) (hwindow _ _))

/-! ### Requests -/

theorem whenLive_alike (hu : Alike s t u v) (hs : s.whenLive u = .next s') : ∃ t', t.whenLive v = .next t' ∧ Alike s t s' t' := by
  obtain ⟨hl, rfl⟩ := whenLive_next.1 hs
  exact ⟨v, whenLive_of_live (h.life ▸ hl), hu⟩

theorem whenFlash_alike (hu : Alike s t u v) (hs : s.whenFlash u = .next s') :
    ∃ t', t.whenFlash v = .next t' ∧ Alike s t s' t' := by
  obtain ⟨hl, hf, rfl⟩ := whenFlash_next.1 hs
  exact ⟨v, whenFlash_of_flash (h.life ▸ hl) (h.cfg ▸ hf), hu⟩

/-- Every bus, scheduler and flash-local request does the same on two cores that are equal to the bus. -/
theorem perform_alike (hr : ofBusOrScheduler r) (hs : perform r s = .next s') :
    ∃ t', perform r t = .next t' ∧ Alike s t s' t' := by
  cases r with
  | bus tc =>
    rw [perform_bus] at *
    refine whenLive_alike h ?_ hs
    generalize (tcKind tc).toNat = n
    rcases n with _ | _ | _ | n
    · exact alike_memAccess h .read _
    · exact alike_memAccess h (.write _) _
    · exact ((InStep.refl h).answer _ _).alike rfl
    · exact ((inStep_portWrite h _ _).answer _ _).alike rfl
  | flashRd fa =>
    cases hf : s.cfg.hasFlash with
    | false => rw [(perform_noFlash (v := 0) hf fa).1] at hs; cases hs
    | true =>
      rw [perform_flashRd fa hf] at hs
      rw [perform_flashRd fa (h.cfg ▸ hf), ← h.cfg]
      exact whenFlash_alike h (alike_flashRead h _ .byte) hs
  | flashWr fa x =>
    cases hf : s.cfg.hasFlash with
    | false => rw [(perform_noFlash hf fa).2] at hs; cases hs
    | true =>
      rw [perform_flashWr fa hf] at hs
      rw [perform_flashWr fa (h.cfg ▸ hf), ← h.cfg]
      exact whenFlash_alike h (((inStep_flashWrite h _ x).answer _ _).alike rfl) hs
  | tick => exact whenLive_alike h (((inStep_tick h).answer _ _).alike rfl) hs
  | tempo =>
    rw [perform_tempo, ← h.raster]
    exact whenLive_alike h (((inStep_drive h .tempo _).answer _ _).alike rfl) hs
  | blink =>
    rw [perform_blink, ← h.raster]
    exact whenLive_alike h (((inStep_drive h .blink _).answer _ _).alike rfl) hs
  | _ => exact hr.elim

end

/-- Settles O58: each shared operation keeps two cores in step, and so does every request that is made of them. -/
theorem equalInstancesAnswerAlike : Obligations.EqualInstancesAnswerAlike := by
  intro s t s' r hr h hs
  obtain ⟨t', ht, ⟨hsame, evs, calls, n, hout, hout'⟩, hresult⟩ := perform_alike h hr hs
  have hdraws : s'.draws + t.draws = t'.draws + s.draws := by rw [hout.draws, hout'.draws]; omega
  exact ⟨t', ht, hsame, hdraws, hresult, ⟨evs, hout.trace, hout'.trace⟩, calls, hout.periph, hout'.periph⟩

end Sys2Proof.Machine
end

section
/-! SUPPORT. The statements of 44_host_interface about the host's calls: SNAP_SAVE and SNAP_LOAD, the bodies that are refused, and
RELEASE. -/

namespace Sys2Proof.Machine

open Sys2Proof.Claims

variable {s : State} {p : Snapshot} {fill : Nat → Byte} {m : Memory}

/-! ## SNAP_LOAD, case by case (44 R302) -/

theorem tagsMatch_iff : s.tagsMatch p = true ↔ p.version = s.cfg.revision ∧ p.identity = s.cfg := by
  simp only [State.tagsMatch, Bool.and_eq_true, decide_eq_true_eq]

theorem exec_snapLoad_loaded (hl : s.life = .live) (htag : s.tagsMatch p = true) (hwf : p.wf = true) :
    exec (.snapLoad p) s = .next ((s.restore p).answer (.loaded true)) := by
  show execSnapLoad p s = _
  simp only [execSnapLoad, hl, if_pos htag, if_pos hwf]

theorem exec_snapLoad_forged (hl : s.life = .live) (htag : s.tagsMatch p = true) (hwf : ¬p.wf = true) :
    exec (.snapLoad p) s = .refused .forgedSnapshot := by
  show execSnapLoad p s = _
  simp only [execSnapLoad, hl, if_pos htag, if_neg hwf]

theorem exec_snapLoad_mismatch (hl : s.life = .live) (htag : ¬s.tagsMatch p = true) :
    exec (.snapLoad p) s = .next (s.answer (.loaded false)) := by
  show execSnapLoad p s = _
  simp only [execSnapLoad, hl, if_neg htag]

/-! ## A saved snapshot can be loaded (44 R301, R302) -/

/-- What SNAP_SAVE produces of a good state is a body that SNAP_LOAD takes (60 R336 (d)). -/
theorem State.Good.snapshot_wf (h : s.Good) : s.snapshot.wf = true :=
  Snapshot.wf_iff.2 ⟨⟨⟨⟨⟨⟨⟨⟨h.bufferOk .pcg, h.bufferOk .ram⟩, h.bufferOk .vram⟩, h.bufferOk .fstore⟩, h.latchOk⟩, h.rasterOk⟩,
    h.flashOk⟩, h.pcgOk⟩, h.storeOk⟩

/-- A drive that reaches its level has appended the record of the change. -/
theorem drive_trace_of_reached {g : Sig} {x : Bool} (h : sigLevel (s.drive g x).raster g = x) :
    (s.drive g x).trace = s.trace ++ records g (sigLevel s.raster g) x := by
  unfold State.drive at *
  split at h
  · next hsame => rw [if_pos hsame, h, records_self, List.append_nil]
  · next hchange => rw [if_neg hchange, records, if_neg fun e => hchange (.inl e)]

/-- A load replaces the components of the body, and emits `BUSREQ` alone (44 R302). -/
theorem restore_eq (hs : RasterOk s.cfg s.raster) (hp : RasterOk s.cfg p.timing) : s.restore p =
    { s with mems := { s.mems with pcg := p.pcg, ram := p.ram, vram := p.vram, fstore := p.fstore }
             latch := p.latch, raster := p.timing, flash := p.flash, modified := s.cfg.hasFlash || s.modified
             trace := s.trace ++ records .busreq s.raster.stall p.timing.stall } := by
  have hraster := restore_raster hs hp
  have htrace : (s.restore p).trace = s.trace ++ records .busreq s.raster.stall p.timing.stall :=
    drive_trace_of_reached (congrArg Raster.stall hraster)
  unfold State.restore at *
  rw [drive_frame, hraster, htrace]

/-- Settles O56: the saved body is one that SNAP_LOAD takes, and loading it replaces every component. -/
theorem snapshotRoundTrip : Obligations.SnapshotRoundTrip := by
  intro s u hl hs hlu hu hcfg
  refine ⟨whenLive_of_live hl, ?_⟩
  have htag : u.tagsMatch s.snapshot = true := tagsMatch_iff.2 ⟨congrArg Config.revision hcfg.symm, hcfg.symm⟩
  refine (exec_snapLoad_loaded hlu htag hs.snapshot_wf).trans ?_
  rw [restore_eq hu.rasterOk (hcfg ▸ hs.rasterOk), hcfg]
  rfl

/-! ## Bodies that no save produces (60 R336 (d)) -/

/-- An index that does not read as the fill is listed. -/
theorem exists_mem_of_get_ne {k : Nat} (h : Sparse.get fill m k ≠ fill k) : ∃ q ∈ m, q.1 = k := by
  by_contra hno
  exact h (Sparse.get_of_not_mem fun q hq hqk => hno ⟨q, hq, hqk⟩)

/-- A chip erase under way over a store with a byte that is not erased (42 R217, R230). -/
theorem not_storeOk_chip {c : Config} {f : FlashRegs} {k : Nat} (hbusy : busySector < f.busy)
    (hk : Sparse.get (fillOf c .fstore) m k ≠ 0xFF) : ¬StoreOk c f m := by
  rintro ⟨hchip, -⟩
  obtain ⟨q, hq, -⟩ := exists_mem_of_get_ne hk
  rw [hchip hbusy] at hq
  cases hq

/-- An erase under way over a store without an erased sector (42 R217, R231). -/
theorem not_storeOk_sector {c : Config} {f : FlashRegs} (hbusy : busyProgram < f.busy)
    (hk : ∀ n < c.pages, ∃ k, k / flashSector = n ∧ Sparse.get (fillOf c .fstore) m k ≠ 0xFF) : ¬StoreOk c f m := by
  rintro ⟨-, hsector⟩
  obtain ⟨n, hn, herased⟩ := hsector hbusy
  obtain ⟨k, hkn, hne⟩ := hk n hn
  obtain ⟨q, hq, rfl⟩ := exists_mem_of_get_ne hne
  exact herased q hq hkn

/-- A PCG byte other than its fill where nothing writes one (40 R121, R134, 70 R350). -/
theorem not_pcgOk_of_absent {c : Config} {k : Nat} (ho : c.overlay = false) (hport : c.hasPcgPort = false)
    (hk : Sparse.get (fillOf c .pcg) m k ≠ 0) : ¬PcgOk c m := by
  intro hpcg
  obtain ⟨q, hq, -⟩ := exists_mem_of_get_ne hk
  have hw := hpcg q hq
  simp [pcgWritable, ho, hport] at hw

/-- A boot page above a data byte (40 R147). -/
theorem not_latchOk_of_bootPage {c : Config} {l : Latch} (h : 255 < l.bootPage) : ¬LatchOk c l := by
  rintro ⟨hpage, -⟩
  split at hpage <;> omega

/-- Settles O57: the tags decide whether the body is looked at, and each of the four bodies breaks one part of `Snapshot.wf`. -/
theorem mismatchedSnapshotChangesNothing : Obligations.MismatchedSnapshotChangesNothing := by
  intro s p hl
  have refused : p.version = s.cfg.revision → p.identity = s.cfg → ¬p.wf = true →
      exec (.snapLoad p) s = .refused .forgedSnapshot := fun hv hid hwf =>
    exec_snapLoad_forged hl (tagsMatch_iff.2 ⟨hv, hid⟩) hwf
  refine ⟨fun htags => ?_, fun hv hid hwf => refused hv hid (by simp [hwf]), fun hv hid => ?_⟩
  · exact exec_snapLoad_mismatch hl fun htag => htags.elim (· (tagsMatch_iff.1 htag).1) (· (tagsMatch_iff.1 htag).2)
  · intro stored hbody
    refine refused hv hid fun hwf => ?_
    rw [Snapshot.wf_iff, hid] at hwf
    obtain ⟨⟨⟨⟨⟨-, hlatch⟩, -⟩, -⟩, hpcg⟩, hstore⟩ := hwf
    rcases hbody with ⟨hbusy, k, hk⟩ | ⟨hbusy, hk⟩ | ⟨ho, hport, k, hk⟩ | hpage
    · exact not_storeOk_chip hbusy hk hstore
    · exact not_storeOk_sector hbusy hk hstore
    · exact not_pcgOk_of_absent ho hport hk hpcg
    · exact not_latchOk_of_bootPage hpage hlatch

/-! ## RELEASE (44 R303) -/

/-- No operation follows RELEASE (60 R336 (b)). -/
theorem exec_released (h : s.life = .released) (i : Instr) : exec i s = .refused .released := by
  have hlive : ∀ t, s.whenLive t = .refused .released := fun t => by simp only [State.whenLive, h]
  have hflash : ∀ t, s.whenFlash t = .refused .released := fun t => by simp only [State.whenFlash, h]
  cases i
  case initCore c im =>
    show execInitCore c im s = _
    simp only [execInitCore, h]
  case snapLoad p =>
    show execSnapLoad p s = _
    simp only [execSnapLoad, h]
  case memBootflash | frd | frdStatus | frdId | frdArray | fwr | fwrBusy | fUnlock1 | fReset | fUnlock2 | fProgramSetup
    | fEraseSetup | fIdEntry | fIdExit | fProgramData | fEraseUnlock1 | fEraseUnlock2 | fChipErase | fSectorErase | fMismatch =>
    exact hflash _
  all_goals exact hlive _

theorem flashImage_length : s.flashImage.length = s.cfg.flashSize := by simp [State.flashImage]

theorem flashImage_getElem? {k : Nat} (h : k < s.cfg.flashSize) : s.flashImage[k]? = some (s.peek .fstore k) := by
  simp [State.flashImage, h]

/-- Settles O59: the image is `State.flashImage`, whose bytes are the store's. -/
theorem releaseHandsOverAModifiedFlash : Obligations.ReleaseHandsOverAModifiedFlash := by
  intro s hl
  refine ⟨_, _, whenLive_of_live hl, rfl, exec_released rfl, ?_, fun bytes hbytes => ?_⟩
  · rw [Option.isSome_ite, Bool.and_eq_true]
  · obtain ⟨-, himage⟩ := Option.ite_none_right_eq_some.1 hbytes
    obtain rfl := Option.some.inj himage
    exact ⟨flashImage_length, fun k hk => flashImage_getElem? hk⟩

end Sys2Proof.Machine
end

section
/-! SUPPORT. The statements of 60_exceptions: by which precondition each operation is guarded, which operations are refused outside
an instance's life or without a flash, and which requests are answered. -/

namespace Sys2Proof.Machine

open Sys2Proof.Claims

variable {s u : State} {i : Instr}

/-! ## The guard of each operation (60 R336) -/

/-- The operations of the flash block, which "exists only when BOOT = FLASH" (42). -/
def isFlashOp : Instr → Bool
  | .memBootflash _ _ | .frd _ | .frdStatus _ | .frdId _ | .frdArray _ | .fwr _ _ | .fwrBusy _ _ | .fUnlock1 | .fReset _ | .fUnlock2
  | .fProgramSetup | .fEraseSetup | .fIdEntry | .fIdExit | .fProgramData _ _ | .fEraseUnlock1 | .fEraseUnlock2 | .fChipErase
  | .fSectorErase _ | .fMismatch _ _ => true
  | _ => false

/-- An operation of the flash asks for an instance with a flash, INITIALIZE and SNAP_LOAD have preconditions of their own, and every
other operation asks for an instance. -/
theorem exec_guard (i : Instr) (s : State) :
    (isFlashOp i = true ∧ ∃ t, exec i s = s.whenFlash t) ∨ (isFlashOp i = false ∧ ∃ t, exec i s = s.whenLive t)
      ∨ (∃ c im, i = .initCore c im) ∨ ∃ p, i = .snapLoad p := by
  cases i
  case initCore c im => exact .inr (.inr (.inl ⟨c, im, rfl⟩))
  case snapLoad p => exact .inr (.inr (.inr ⟨p, rfl⟩))
  case memBootflash | frd | frdStatus | frdId | frdArray | fwr | fwrBusy | fUnlock1 | fReset | fUnlock2 | fProgramSetup
    | fEraseSetup | fIdEntry | fIdExit | fProgramData | fEraseUnlock1 | fEraseUnlock2 | fChipErase | fSectorErase | fMismatch =>
    exact .inl ⟨rfl, _, rfl⟩
  all_goals exact .inr (.inl ⟨rfl, _, rfl⟩)

/-! ## Operations outside their instance (60 R336 (a) to (c), 42) -/

theorem whenLive_of_unborn (h : s.life = .unborn) : s.whenLive u = .refused .notInitialized := by
  simp only [State.whenLive, h]

theorem whenFlash_of_unborn (h : s.life = .unborn) : s.whenFlash u = .refused .notInitialized := by
  simp only [State.whenFlash, h]

theorem whenFlash_of_noFlash (h : s.life = .live) (hf : s.cfg.hasFlash = false) : s.whenFlash u = .refused .flashAbsent := by
  simp [State.whenFlash, h, hf]

/-- Before INITIALIZE only INITIALIZE has a meaning (60 R336 (a)). -/
theorem exec_unborn (h : s.life = .unborn) (hi : ∀ c im, i ≠ .initCore c im) : exec i s = .refused .notInitialized := by
  obtain ⟨-, t, hexec⟩ | ⟨-, t, hexec⟩ | ⟨c, im, rfl⟩ | ⟨p, rfl⟩ := exec_guard i s
  · exact hexec.trans (whenFlash_of_unborn h)
  · exact hexec.trans (whenLive_of_unborn h)
  · exact absurd rfl (hi c im)
  · show execSnapLoad p s = _
    simp only [execSnapLoad, h]

theorem exec_initCore_again (h : s.life = .live) (c : Config) (im : Images) :
    exec (.initCore c im) s = .refused .alreadyInitialized := by
  show execInitCore c im s = _
  simp only [execInitCore, h]

theorem exec_initCore_badConfiguration {c : Config} (h : s.life = .unborn) (hc : ¬c.Ok) (im : Images) :
    exec (.initCore c im) s = .refused .badConfiguration := by
  show execInitCore c im s = _
  simp only [execInitCore, h, if_neg hc]

theorem exec_flashAbsent (hl : s.life = .live) (hf : s.cfg.hasFlash = false) (hi : isFlashOp i = true) :
    exec i s = .refused .flashAbsent := by
  obtain ⟨-, t, hexec⟩ | ⟨hno, -⟩ | ⟨c, im, rfl⟩ | ⟨p, rfl⟩ := exec_guard i s
  · exact hexec.trans (whenFlash_of_noFlash hl hf)
  · exact absurd (hno.symm.trans hi) Bool.false_ne_true
  · cases hi
  · cases hi

/-- Settles O8: each life has its refusal, and the operations listed are those of the flash. -/
theorem operationsOutsideTheirInstanceAreRefused : Obligations.OperationsOutsideTheirInstanceAreRefused := by
  refine ⟨fun s i h => exec_released h i, fun s i h hi => exec_unborn h hi, fun s c im h => exec_initCore_again h c im,
    fun s c im h hc => exec_initCore_badConfiguration h hc im, fun s i hl hf hlisted => exec_flashAbsent hl hf ?_⟩
  obtain ⟨fa, rfl | rfl | rfl | rfl | rfl | rfl | ⟨v, rfl | rfl | rfl | rfl⟩⟩ | ⟨acc, off, rfl⟩ | hsequence := hlisted
  case inr.inr =>
    have hall : ∀ j ∈ [Instr.fUnlock1, .fUnlock2, .fProgramSetup, .fEraseSetup, .fIdEntry, .fIdExit, .fEraseUnlock1,
        .fEraseUnlock2, .fChipErase], isFlashOp j = true := by decide
    exact hall i hsequence
  all_goals rfl

/-! ## Requests that are answered (60 R320, R335, R336) -/

theorem whenLive_answers : (∃ t, s.whenLive u = .next t) ↔ s.life = .live :=
  ⟨fun ⟨_, h⟩ => (whenLive_next.1 h).1, fun h => ⟨u, whenLive_of_live h⟩⟩

theorem whenFlash_answers : (∃ t, s.whenFlash u = .next t) ↔ s.life = .live ∧ s.cfg.hasFlash = true :=
  ⟨fun ⟨_, h⟩ => ⟨(whenFlash_next.1 h).1, (whenFlash_next.1 h).2.1⟩, fun h => ⟨u, whenFlash_of_flash h.1 h.2⟩⟩

/-- A flash-local request is refused without a flash, whatever the instance's life (log entry 12). -/
theorem perform_flashRd_answers (fa : Nat) :
    (∃ t, perform (.flashRd fa) s = .next t) ↔ s.life = .live ∧ s.cfg.hasFlash = true := by
  cases hf : s.cfg.hasFlash
  · simp [(perform_noFlash hf fa (v := 0)).1]
  · rw [perform_flashRd fa hf, whenFlash_answers, hf]

theorem perform_flashWr_answers (fa : Nat) (v : Byte) :
    (∃ t, perform (.flashWr fa v) s = .next t) ↔ s.life = .live ∧ s.cfg.hasFlash = true := by
  cases hf : s.cfg.hasFlash
  · simp [(perform_noFlash hf fa (v := v)).2]
  · rw [perform_flashWr fa hf, whenFlash_answers, hf]

theorem perform_initCore_answers (c : Config) (im : Images) :
    (∃ t, perform (.initCore c im) s = .next t) ↔ s.life = .unborn ∧ c.Ok := by
  simp only [perform_initCore, exists_and_left, exists_eq, and_true]

/-- A body that no SNAP_SAVE produces is refused under matching tags only (60 R336 (d)). -/
theorem perform_snapLoad_answers (p : Snapshot) :
    (∃ t, perform (.snapLoad p) s = .next t) ↔ s.life = .live ∧ (s.tagsMatch p = true → p.wf = true) := by
  simp only [perform_snapLoad, exists_and_left, exists_or, exists_eq, and_true]
  cases s.tagsMatch p <;> simp

/-- Settles O7: by the kind of request, each of which has its guard. -/
theorem requestAnsweredIffAdmitted : Obligations.RequestAnsweredIffAdmitted := by
  intro s r
  cases r with
  | bus tc =>
    rw [perform_bus]
    exact whenLive_answers
  | flashRd fa => exact perform_flashRd_answers fa
  | flashWr fa v => exact perform_flashWr_answers fa v
  | initCore c im => exact perform_initCore_answers c im
  | snapLoad p => exact perform_snapLoad_answers p
  | malformed n w => exact ⟨fun ⟨_, h⟩ => (nomatch h), False.elim⟩
  | tick | tempo | blink | present | reset | snapSave | release => exact whenLive_answers

end Sys2Proof.Machine
end

section
/-! SUPPORT. The statements of 70_reset_and_hazards: the records of RESET, and every register and byte INITIALIZE leaves. -/

namespace Sys2Proof.Machine

open Sys2Proof.Claims

variable {s : State} {c : Config}

/-! ## RESET (70 R351) -/

/-- Dropping a level records the fall. Where the drive has no effect, without the overlay, the stall is low already (10 R29). -/
theorem drive_low_trace (h : s.raster.stall = true → s.cfg.overlay = true) (g : Sig) :
    (s.drive g false).trace = s.trace ++ records g (sigLevel s.raster g) false := by
  cases hg : sigLevel s.raster g with
  | false => rw [drive_same hg, records_self, List.append_nil]
  | true =>
    rw [← hg]
    refine drive_trace g false fun hb => h ?_
    subst hb
    exact hg

theorem sigLevel_drive_other {g q : Sig} (h : q ≠ g) (v : Bool) : sigLevel (s.drive g v).raster q = sigLevel s.raster q := by
  rw [sigLevel_drive, if_neg fun hdriven => h hdriven.1]

/-- A drop does not raise the stall. -/
theorem stall_of_drive_low {g : Sig} (h : (s.drive g false).raster.stall = true) : s.raster.stall = true := by
  change sigLevel (s.drive g false).raster .busreq = true at h
  rw [sigLevel_drive] at h
  split at h
  · cases h
  · exact h

/-- Signals dropped one after another are recorded in that order, each by the level it had: a drop leaves the others alone. -/
theorem foldl_drive_low_trace {gs : List Sig} (hgs : gs.Nodup) (h : s.raster.stall = true → s.cfg.overlay = true) :
    (gs.foldl (fun u g => u.drive g false) s).trace
      = s.trace ++ gs.flatMap fun g => records g (sigLevel s.raster g) false := by
  induction gs generalizing s with
  | nil => exact (List.append_nil _).symm
  | cons g gs ih =>
    obtain ⟨hg, hgs⟩ := List.nodup_cons.1 hgs
    have hlater : gs.flatMap (fun q => records q (sigLevel (s.drive g false).raster q) false)
        = gs.flatMap fun q => records q (sigLevel s.raster q) false :=
      List.flatMap_congr fun q hq => by rw [sigLevel_drive_other (ne_of_mem_of_not_mem hq hg)]
    have hstall : (s.drive g false).raster.stall = true → (s.drive g false).cfg.overlay = true := fun hst => by
      rw [State.drive_cfg]
      exact h (stall_of_drive_low hst)
    rw [List.foldl_cons, ih hgs hstall, hlater, drive_low_trace h, List.flatMap_cons, List.append_assoc]

/-- RESET is the drops and the power-on registers, and nothing else (70 R351). -/
theorem resetCore_frame : s.resetCore
    = { s with latch := Latch.powerOn, raster := Raster.powerOn, flash := FlashRegs.powerOn, trace := s.dropSignals.trace } := by
  have hdrop : RasterOnly s s.dropSignals := rasterOnly_dropSignals
  unfold RasterOnly at hdrop
  rw [resetCore_eq, hdrop]

/-- Settles O55: the drops are recorded in the order in which `State.dropSignals` makes them. -/
theorem resetDropsTheLevelsInOrder : Obligations.ResetDropsTheLevelsInOrder := by
  intro s hl hg
  refine (whenLive_answer_of_eq hl resetCore_frame .done).trans ?_
  rw [State.dropSignals, foldl_drive_low_trace (by decide) (overlay_of_stall hg.rasterOk)]
  simp only [List.flatMap_cons, List.flatMap_nil, List.append_nil, ← List.append_assoc]
  rfl

/-! ## The memories after INITIALIZE (70 R350, R352) -/

/-- A ROM or the flash store holds its image, over `0xFF` (70 R352). -/
theorem get_loadImage_eq_imageByte {fill : Nat → Byte} {size k : Nat} (hfill : fill k = 0xFF) (hk : k < size)
    (img : Option (List Byte)) : Sparse.get fill (loadImage fill size img) k = imageByte img k := by
  cases img with
  | none => exact hfill
  | some vs =>
    rw [get_loadImage, hfill, List.getD_eq_getElem?_getD, List.getElem?_take_of_lt hk, ← List.getD_eq_getElem?_getD]
    rfl

section
variable {α : Type} {fill : Nat → α} {m m' : Sparse α} {k : Nat}

/-- An index that the first part does not list is looked up in the second. -/
theorem get_append_right (h : ∀ p ∈ m, p.1 ≠ k) : Sparse.get fill (m ++ m') k = Sparse.get fill m' k := by
  induction m with
  | nil => rfl
  | cons p m ih =>
    rw [List.cons_append, Sparse.get_cons_entry, if_neg (h p List.mem_cons_self)]
    exact ih fun q hq => h q (List.mem_cons_of_mem _ hq)

/-- An index that the second part does not list is looked up in the first. -/
theorem get_append_left (h : ∀ p ∈ m', p.1 ≠ k) : Sparse.get fill (m ++ m') k = Sparse.get fill m k := by
  induction m with
  | nil => exact Sparse.get_of_not_mem h
  | cons p m ih => rw [List.cons_append, Sparse.get_cons_entry, Sparse.get_cons_entry, ih]

end

/-- With the PCG write port the two blocks of R350 are seeded from the character ROM, and every other pattern byte is 0. -/
theorem get_initPcg (x : Memory) (k : Nat) : Sparse.get (fillOf c .pcg) (initPcg c x) k
    = if c.hasPcgPort = true ∧ (k < 0x400 ∨ 0x800 ≤ k ∧ k < 0xC00) then Sparse.get (fillOf c .cgrom) x k else 0 := by
  by_cases hport : c.hasPcgPort = true
  · rw [initPcg, if_pos hport]
    by_cases hk : k < 0x400
    · rw [get_append_left fun p hp => by have := Sparse.mem_tabulate hp; omega, Sparse.get_tabulate, if_pos (by omega),
        if_pos ⟨hport, .inl hk⟩]
    · rw [get_append_right fun p hp => by have := Sparse.mem_tabulate hp; omega, Sparse.get_tabulate]
      simp only [hport, hk, true_and, false_or]
      rfl
  · rw [initPcg, if_neg hport, if_neg fun h => hport h.1]
    rfl

/-- The seeded bytes are those of the image: the character ROM holds both blocks (00 R7). -/
theorem get_initPcg_loadImage (hc : c.Ok) (img : Option (List Byte)) (k : Nat) :
    Sparse.get (fillOf c .pcg) (initPcg c (loadImage (fillOf c .cgrom) c.cgSize img)) k
      = if c.hasPcgPort = true ∧ (k < 0x400 ∨ 0x800 ≤ k ∧ k < 0xC00) then imageByte img k else 0 := by
  obtain ⟨-, -, ⟨-, -, hsize, -⟩, -⟩ := hc
  rw [get_initPcg]
  split
  · next hseeded => exact get_loadImage_eq_imageByte rfl (by omega) img
  · rfl

/-! ## The renderer buffers after INITIALIZE (10 R33) -/

theorem hostPixel_of_not_listed {Y : Nat} (h : listed s.video.host Y = false) (X : Nat) : s.hostPixel Y X = Rgb.black := by
  rw [State.hostPixel, get_of_not_listed h, List.getD_eq_getElem?_getD]
  exact List.getElem?_getD_replicate_default_eq (d := Rgb.black) hostW X

/-- Settles O54: the registers and the memories without an image are what `initState` writes; the bytes of the images and of the
pattern memory are those of `loadImage` and `initPcg`. -/
theorem initializeBuildsThePowerOnState : Obligations.InitializeBuildsThePowerOnState := by
  intro c im s hl hc
  refine ⟨(initState c im s).answer .done, (perform_initCore c im).2 ⟨hl, hc, rfl⟩, rfl, rfl, rfl, rfl, rfl, rfl, rfl,
    ?ipl, ?cgrom, ?ext, ?fstore, fun _ => rfl, fun _ => rfl, ?pcg, ?video⟩
  case ipl => exact fun k hk => get_loadImage_eq_imageByte rfl hk im.ipl
  case cgrom => exact fun k hk => get_loadImage_eq_imageByte rfl hk im.cg
  case ext =>
    intro hext k hk
    have hmem : ((initState c im s).answer .done).mem .ext = loadImage (fillOf c .ext) c.extSize im.ext := if_pos hext
    rw [State.peek, hmem]
    exact get_loadImage_eq_imageByte rfl hk im.ext
  case fstore =>
    intro hflash k hk
    have hmem : ((initState c im s).answer .done).mem .fstore = loadImage (fillOf c .fstore) c.flashSize im.flash :=
      if_pos hflash
    rw [State.peek, hmem]
    exact get_loadImage_eq_imageByte rfl hk im.flash
  case pcg => exact fun k => get_initPcg_loadImage hc im.cg k
  case video =>
    exact fun y x => ⟨framePixel_of_not_listed rfl x, prevPixel_of_not_listed rfl x, hostPixel_of_not_listed rfl x⟩

end Sys2Proof.Machine
end
